-- ==== Sys2Proof/Word.lean ====
section
/-! DEFINITION. The bit-vector types of the block's signals (30_encoding.md R43 to R47).

Only what the spec treats as bits is a bit vector: a raw sample (format `RAW`), a value of the axis
data path (format `ADJ`), and the select vectors. One-bit `FLAG` signals are `Bool` (`true` = 1,
R46); a button level has a type of its own (`Level`, Syntax.lean). -/

namespace Sys2Proof

/-- Format `RAW` (R43): a raw sample, 12 bits, unsigned; every pattern is legal. -/
abbrev Raw := BitVec 12

/-- Format `ADJ` (R44): a value of the axis data path, 13 bits, two's complement. -/
abbrev Adj := BitVec 13

end Sys2Proof
end

