-- ==== Sys2Proof/Syntax.lean ====
section
/-! DEFINITION. The operation set that stands in the place of an instruction set (00_scope.md R2):
one constructor of `Instr` for each row of spec/opcode_table.json. -/

namespace Sys2Proof

/-- The axis index `a` in 0, 1 (R7, R29): it selects an AXC and its ports at design time. -/
inductive AxisIx where
  | a0
  | a1
deriving DecidableEq, Repr, Inhabited

/-- The button index `b` in 0, 1 (R7, R29): it selects a DEB and its ports at design time. -/
inductive BtnIx where
  | b0
  | b1
deriving DecidableEq, Repr, Inhabited

/-- Format `LEVEL` (R45): the two values of a button level. -/
inductive Level where
  /-- encoded 0: the pin is pulled low -/
  | pressed
  /-- encoded 1: the pin is high through its pull-up, the idle level -/
  | released
deriving DecidableEq, Repr, Inhabited

/-- The three kinds of part whose operation a select word names (R49, R50, R51), with the channel
the word stands at: a channel index is wiring (R29), not a field of the word. -/
inductive Format where
  | axc (a : AxisIx)
  | deb (b : BtnIx)
  | top
deriving DecidableEq, Repr

/-- A select word at the part it stands at: the 12-bit input word of an AXC (R49), the 5-bit `sel`
of a DEB (R50), the 3-bit `tsel` of the block (R51). -/
inductive SelWord where
  | axc (a : AxisIx) (raw : Raw)
  | deb (b : BtnIx) (sel : BitVec 5)
  | top (tsel : BitVec 3)
deriving DecidableEq, Repr

/-- The operations of the block, in the order of spec/opcode_table.json. -/
inductive Instr where
  /-- `COND` (R61) of axis channel `a` on its 12-bit input word `raw` -/
  | cond (a : AxisIx) (raw : Raw)
  /-- `RESET` (R67) of button channel `b` -/
  | reset (b : BtnIx)
  /-- `COUNT` (R69) of button channel `b` -/
  | count (b : BtnIx)
  /-- `DELIVER` (R70) of button channel `b` -/
  | deliver (b : BtnIx)
  /-- `POLL` (R68) of button channel `b` with the operand `level` -/
  | poll (b : BtnIx) (level : Level)
  /-- `HOLD` (R71) of button channel `b` -/
  | hold (b : BtnIx)
  /-- `T.RESET` (R85) of the block -/
  | tReset
  /-- `T.STALL` (R86) of the block -/
  | tStall
  /-- `T.SAMPLE` (R87) of the block; its operands `btn[0]`, `btn[1]` are read at the ports -/
  | tSample
  /-- `T.IDLE` (R88) of the block -/
  | tIdle
deriving DecidableEq, Repr

end Sys2Proof
end

