-- ==== Sys2Proof/Config.lean ====
section
/-! DEFINITION. The constants of an instance (00_scope.md R7, R8) and the free values.

The `OPEN` parameters of R8 are the fields of `Config`; a machine state carries its `Config`
(State.cfg), so every statement over states quantifies over every instance. What the spec leaves
free is an opaque constant without a body. -/

namespace Sys2Proof

/-- The constants of one axis channel (R8). The fields are integers wide enough to write down a
configuration that R9 refuses; `AxisConfig.wf` (WellFormed.lean) says which are accepted. -/
structure AxisConfig where
  /-- `CENTER[a]` -/
  center : Nat
  /-- `NEG_CLAMP[a]` -/
  negClamp : Int
  /-- `POS_CLAMP[a]` -/
  posClamp : Int
  /-- `DEADZONE[a]` -/
  deadzone : Nat
deriving DecidableEq, Repr

/-- The constants of an instance of the block (R8). -/
structure Config where
  axis0 : AxisConfig
  axis1 : AxisConfig
  /-- `SETTLE_CYCLES`: length of the settle delay in clock periods -/
  settleCycles : Nat
  /-- `SETTLE_W`: width of the settle counters in bits -/
  settleW : Nat
  /-- `F_CLK`, more than 0, in whole hertz (log entry 9): no rule of the step reads it (R8, R118) -/
  fClk : Nat
deriving DecidableEq, Repr

namespace Config

/-- `NAXIS` (R7, R8). -/
def nAxis : Nat := 2
/-- `NBTN` (R7, R8). -/
def nBtn : Nat := 2
/-- `RAW_W` (R8). -/
def rawW : Nat := 12
/-- `ADJ_W` (R8). -/
def adjW : Nat := 13
/-- `PREV_RESET` (R8, R30): the spec fixes 1, released. -/
def prevReset : Level := .released

/-- The constants of axis channel `a`. -/
def axis (c : Config) : AxisIx → AxisConfig
  | .a0 => c.axis0
  | .a1 => c.axis1

/-- `round(num/den * F_CLK)` (R75, R118): the settle length, in clock periods, that realises a
duration of `num/den` seconds at this clock frequency; halves round up. -/
def cyclesFor (c : Config) (num den : Nat) : Nat := (2 * num * c.fClk + den) / (2 * den)

/-! The instance that `State.reset` carries (log entry 1). The spec gives `OPEN` parameters no
value; these are test configurations of 95_test_vectors.md section 2.1 and the settle length of the
examples of 41_button_debouncer.md. -/

/-- CFG-A of 95_test_vectors.md section 2.1. -/
def cfgA : AxisConfig := ⟨2048, -2047, 2047, 100⟩
/-- CFG-C of 95_test_vectors.md section 2.1. -/
def cfgC : AxisConfig := ⟨1929, -1800, 2000, 150⟩

/-- DESIGN CHOICE (log entry 1): the instance of `State.reset`, that of program P5 with the settle
length 3 of 95_test_vectors.md section 2.2. -/
def sample : Config :=
  { axis0 := cfgC, axis1 := cfgA, settleCycles := 3, settleW := 2, fClk := 60 }

/-! Free values: no body, so nothing can be proved of them. "The inputs are free" (R14; log
entry 7). -/

/-- The value of `rst` in clock cycle `n`, where no input is queued. -/
opaque freeRst : Nat → Bool
/-- The value of `tick` in clock cycle `n`, where no input is queued. -/
opaque freeTick : Nat → Bool
/-- The level of `btn[b]` in clock cycle `n`, where no input is queued. -/
opaque freeBtn : BtnIx → Nat → Level
/-- The raw sample `raw[a]` in clock cycle `n`, where no input is queued. -/
opaque freeRaw : AxisIx → Nat → Raw
/-- What `COUNT` leaves in the counter of channel `b` where it is already 0 (R69 gives no value; log
entry 4), in clock cycle `n`. -/
opaque freeCount : BtnIx → Nat → Nat

end Config
end Sys2Proof
end

