-- ==== Sys2Proof/WellFormed.lean ====
section
/-! DEFINITION. The check a model makes before any step (00_scope.md R9, 60_exceptions.md R94): the
configuration lies in its ranges.

Instructions need no check of their own: decode is total and unambiguous (R53), every operand is of
a type that has exactly the legal values (R17: `raw[a]` in 0 to 4095, levels and strobes definite
bits), and every channel index names a channel that exists (R7). -/

namespace Sys2Proof

/-- The ranges of R9 for one axis channel. -/
def AxisConfig.wf (c : AxisConfig) : Bool :=
  decide (c.center ≤ 4095) && decide (-4095 ≤ c.negClamp) && decide (c.negClamp ≤ 0)
    && decide (0 ≤ c.posClamp) && decide (c.posClamp ≤ 4095) && decide (c.deadzone ≤ 4095)

/-- A well-formed configuration (R9): every parameter lies in its range of R8, those that R9 spells
out again and `F_CLK`, which is more than 0. -/
def Config.wf (c : Config) : Bool :=
  c.axis0.wf && c.axis1.wf && decide (1 ≤ c.settleW) && decide (c.settleCycles ≤ 2 ^ c.settleW - 1)
    && decide (0 < c.fClk)

end Sys2Proof
end

