-- ==== Sys2Proof/Decode.lean ====
section
/-! DEFINITION. Operation select (30_encoding.md section 3): from a select word to the operation the
part performs, total at the width of each format (R53); from a bare number to a select word,
rejecting by name; and the encoder. -/

namespace Sys2Proof

namespace Level

/-- The level a bit stands for (R45): 1 is released, 0 is pressed. -/
def ofBit : Bool → Level
  | true => .released
  | false => .pressed

/-- The bit that encodes a level (R45). -/
def bit : Level → Bool
  | .released => true
  | .pressed => false

end Level

/-! ## Decode -/

/-- The operation of button channel `b` selected by `sel` = (rst, pend, zero, poll, level), bit 4
down to bit 0 (R50). The order of the tests is the order of R50's rows. -/
def decodeDeb (b : BtnIx) (sel : BitVec 5) : Instr :=
  if sel.getLsbD 4 then .reset b
  else if sel.getLsbD 3 then (if sel.getLsbD 2 then .deliver b else .count b)
  else if sel.getLsbD 1 then .poll b (Level.ofBit (sel.getLsbD 0))
  else .hold b

/-- The block-level operation selected by `tsel` = (rst, busy, tick), bit 2 down to bit 0 (R51). -/
def decodeTop (tsel : BitVec 3) : Instr :=
  if tsel.getLsbD 2 then .tReset
  else if tsel.getLsbD 1 then .tStall
  else if tsel.getLsbD 0 then .tSample
  else .tIdle

/-- The decoder: every select word names one operation (R53). An AXC's input word always selects
`COND` (R49). -/
def decode : SelWord → Instr
  | .axc a raw => .cond a raw
  | .deb b sel => decodeDeb b sel
  | .top tsel => decodeTop tsel

/-! ## The table of R49, R50 and R51 as data -/

/-- The ten operations by name, for the rows of the table. -/
inductive Op where
  | cond | reset | count | deliver | poll | hold | tReset | tStall | tSample | tIdle
deriving DecidableEq, Repr

/-- The operation of an instruction. -/
def Instr.op : Instr → Op
  | .cond _ _ => .cond
  | .reset _ => .reset
  | .count _ => .count
  | .deliver _ => .deliver
  | .poll _ _ => .poll
  | .hold _ => .hold
  | .tReset => .tReset
  | .tStall => .tStall
  | .tSample => .tSample
  | .tIdle => .tIdle

/-- A row of an operation table: a word selects it when the bits under `mask` are `value`. -/
structure OpRow where
  op : Op
  mask : Nat
  value : Nat
deriving DecidableEq, Repr

/-- A word matches a row. -/
def OpRow.selectedBy (r : OpRow) (w : Nat) : Bool := decide (w &&& r.mask = r.value)

/-- The rows of each format, in the spec's order (R49, R50, R51). -/
def opRows : Format → List OpRow
  | .axc _ => [⟨.cond, 0x000, 0x000⟩]
  | .deb _ =>
    [⟨.reset, 0b10000, 0b10000⟩, ⟨.count, 0b11100, 0b01000⟩, ⟨.deliver, 0b11100, 0b01100⟩,
     ⟨.poll, 0b11010, 0b00010⟩, ⟨.hold, 0b11010, 0b00000⟩]
  | .top =>
    [⟨.tReset, 0b100, 0b100⟩, ⟨.tStall, 0b110, 0b010⟩, ⟨.tSample, 0b111, 0b001⟩,
     ⟨.tIdle, 0b111, 0b000⟩]

/-- Where a select word stands. -/
def SelWord.format : SelWord → Format
  | .axc a _ => .axc a
  | .deb b _ => .deb b
  | .top _ => .top

/-- The bits of a select word as a number, bit 0 least significant (R11). -/
def SelWord.bits : SelWord → Nat
  | .axc _ raw => raw.toNat
  | .deb _ sel => sel.toNat
  | .top tsel => tsel.toNat

/-! ## Numbers as select words -/

/-- Why a number is no select word of a format. -/
inductive DecodeError where
  /-- no format has select words of this width -/
  | noFormatOfWidth
  /-- a bit above the format's width is 1: the port has no such bit (R34) -/
  | bitAboveWidth
deriving DecidableEq, Repr

/-- The width of a format's select word (R49, R50, R51). -/
def Format.width : Format → Nat
  | .axc _ => 12
  | .deb _ => 5
  | .top => 3

/-- The select word of format `f` whose bits are the number `w`. -/
def readWord (f : Format) (w : Nat) : Except DecodeError SelWord :=
  if w < 2 ^ f.width then
    match f with
    | .axc a => .ok (.axc a (BitVec.ofNat 12 w))
    | .deb b => .ok (.deb b (BitVec.ofNat 5 w))
    | .top => .ok (.top (BitVec.ofNat 3 w))
  else .error .bitAboveWidth

/-- Which part a word of the opcode table stands at, from its width in bits (log entry 2). The
formats' own widths 12, 5 and 3 tell them apart. In whole bytes `DEB` and `TOP` are both 8 bits
wide: a byte below 8 is then read as `tsel`, any other as `sel`. The channel is channel 0. -/
def tableFormat (nbits w : Nat) : Except DecodeError Format :=
  if nbits = 12 ∨ nbits = 16 then .ok (.axc .a0)
  else if nbits = 5 then .ok (.deb .b0)
  else if nbits = 3 then .ok .top
  else if nbits = 8 then .ok (if w < 8 then .top else .deb .b0)
  else .error .noFormatOfWidth

/-- The select word a table word stands for, or why there is none. -/
def readTableWord (nbits w : Nat) : Except DecodeError SelWord :=
  match tableFormat nbits w with
  | .ok f => readWord f w
  | .error e => .error e

/-- The operation the decoder reads from a word of the opcode table. -/
def decodeTableWord (nbits w : Nat) : Option Instr :=
  match readTableWord nbits w with
  | .ok word => some (decode word)
  | .error _ => none

/-! ## Encode -/

/-- The bits of `value` under `mask`, the bits of `fill` elsewhere. -/
def mergeBits {n : Nat} (mask value fill : BitVec n) : BitVec n :=
  (value &&& mask) ||| (fill &&& ~~~mask)

/-- The select word of an operation, written from the masks and matches of R49, R50 and R51. The bits
an operation does not look at (the dashes of the tables) are taken from `fill`. -/
def encodeWith (i : Instr) (fill : BitVec 5) : SelWord :=
  match i with
  | .cond a raw => .axc a raw
  | .reset b => .deb b (mergeBits 0b10000#5 0b10000#5 fill)
  | .count b => .deb b (mergeBits 0b11100#5 0b01000#5 fill)
  | .deliver b => .deb b (mergeBits 0b11100#5 0b01100#5 fill)
  | .poll b .pressed => .deb b (mergeBits 0b11011#5 0b00010#5 fill)
  | .poll b .released => .deb b (mergeBits 0b11011#5 0b00011#5 fill)
  | .hold b => .deb b (mergeBits 0b11010#5 0b00000#5 fill)
  | .tReset => .top (mergeBits 0b100#3 0b100#3 (fill.setWidth 3))
  | .tStall => .top (mergeBits 0b110#3 0b010#3 (fill.setWidth 3))
  | .tSample => .top (mergeBits 0b111#3 0b001#3 (fill.setWidth 3))
  | .tIdle => .top (mergeBits 0b111#3 0b000#3 (fill.setWidth 3))

/-- The select word of an operation with every unread bit 0. -/
def encode (i : Instr) : SelWord := encodeWith i 0

end Sys2Proof
end

