-- ==== Sys2Proof/Machine/State.lean ====
section
/-! DEFINITION. The state of the machine, its reset value, and the reasons a step can stop.

The state of the block itself is the pair of records (prev, pend, cnt) of R18. The other fields hold
what the fixed type of a step leaves no other place for: the constants of the instance (R8 makes them
arguments of a model), the values on the input ports (R16), the inputs still to come (R14), and the
number of the clock cycle (R14). No output is stored (R22, R26): the outputs are functions of the
state and of the input ports (Machine/Outputs.lean). -/

namespace Sys2Proof.Machine

/-- The state of one button channel (R18). -/
structure Deb where
  /-- `prev[b]`: the level of `btn[b]` at the last poll of the channel -/
  prev : Level
  /-- `pend[b]`: an edge was detected at the last poll and its event is not yet delivered -/
  pend : Bool
  /-- `cnt[b]`: clock periods of settle delay still to run -/
  cnt : Nat
deriving DecidableEq, Repr

/-- The values on the input ports other than `clk` (R16) during one clock cycle; those of `rst`,
`tick` and `btn[b]` are read at the rising edge that ends it (R14). -/
structure Inputs where
  rst : Bool
  tick : Bool
  btn0 : Level
  btn1 : Level
  raw0 : Raw
  raw1 : Raw
deriving DecidableEq, Repr

/-- The part that the inputs drive (log entry 3): the whole block, or one channel used alone,
outside the ICB (R54, R69). No operation and no step changes it. -/
inductive Target where
  /-- the ICB: both axis channels and both button channels, wired as in R81 -/
  | icb
  /-- a DEB alone: its poll strobe is the input `tick`, not gated by `busy` -/
  | deb (b : BtnIx)
  /-- an AXC alone -/
  | axc (a : AxisIx)
deriving DecidableEq, Repr

structure State where
  /-- the constants of the instance (R8); nothing changes them (R27, R41) -/
  cfg : Config
  /-- the part that the inputs drive -/
  target : Target
  /-- button channel 0 (R18) -/
  deb0 : Deb
  /-- button channel 1 (R18) -/
  deb1 : Deb
  /-- the values on the input ports in this clock cycle -/
  inp : Inputs
  /-- the inputs of the coming clock cycles, next one first; after them the inputs are free -/
  queue : List Inputs
  /-- the number `n` of this clock cycle (R14) -/
  cycle : Nat
deriving DecidableEq, Repr

/-- The block raises no synchronous exception and takes no trap (R93, R98): there is no fault. -/
inductive Fault where
deriving DecidableEq, Repr

/-- Why a step or an operation has no next state. -/
inductive Refusal where
  /-- raised by an arm of `exec` whose operation has no meaning yet (no arm does): safe -/
  | notModelled (mnemonic : String)
  /-- raised by every operation and step where the configuration is outside its ranges: R9 and R94
  refuse it before any step. Safe: the spec gives such an instance no meaning -/
  | illFormedConfig
deriving DecidableEq, Repr

/-- The reset state of a button channel (R30). -/
def Deb.atReset : Deb := { prev := Config.prevReset, pend := false, cnt := 0 }

/-- The input ports before a first input is presented: the initial held values of R56, no reset and
no tick (log entry 5). -/
def Inputs.initial (c : Config) : Inputs :=
  { rst := false, tick := false, btn0 := .released, btn1 := .released
    raw0 := BitVec.ofNat 12 c.axis0.center, raw1 := BitVec.ofNat 12 c.axis1.center }

/-- The state `S(0)` (R14, R30) of the instance with the constants `c`. -/
def State.resetWith (c : Config) : State :=
  { cfg := c, target := .icb, deb0 := Deb.atReset, deb1 := Deb.atReset
    inp := Inputs.initial c, queue := [], cycle := 0 }

/-- The machine right after reset (R30), of the instance that log entry 1 names. -/
def State.reset : State := State.resetWith Config.sample

end Sys2Proof.Machine
end

