-- ==== Sys2Proof/Machine/Ops.lean ====
section
/-! DEFINITION. The named operations over the state: reading and writing a channel or a port, the
inputs over time, and the one check every operation makes.

The block has no memory (R32) and takes no exception (R93, R98, R99), so there is no memory
operation, no exception entry and no return from one. -/

namespace Sys2Proof.Machine

/-- The level on port `btn[b]`. -/
def Inputs.btn (i : Inputs) : BtnIx → Level
  | .b0 => i.btn0
  | .b1 => i.btn1

/-- The sample on port `raw[a]`. -/
def Inputs.raw (i : Inputs) : AxisIx → Raw
  | .a0 => i.raw0
  | .a1 => i.raw1

/-- Present the sample `v` on port `raw[a]`. -/
def Inputs.setRaw (i : Inputs) (a : AxisIx) (v : Raw) : Inputs :=
  match a with
  | .a0 => { i with raw0 := v }
  | .a1 => { i with raw1 := v }

/-- Present the level `v` on port `btn[b]`. -/
def Inputs.setBtn (i : Inputs) (b : BtnIx) (v : Level) : Inputs :=
  match b with
  | .b0 => { i with btn0 := v }
  | .b1 => { i with btn1 := v }

/-- Button channel `b` (R18). -/
def State.deb (s : State) : BtnIx → Deb
  | .b0 => s.deb0
  | .b1 => s.deb1

/-- Write the three elements of button channel `b`, at the closing edge of the cycle (R13). -/
def State.setDeb (s : State) (b : BtnIx) (d : Deb) : State :=
  match b with
  | .b0 => { s with deb0 := d }
  | .b1 => { s with deb1 := d }

/-- Write both button channels at one edge (R13, R38). -/
def State.setDebs (s : State) (d0 d1 : Deb) : State := { s with deb0 := d0, deb1 := d1 }

/-- Present the sample `v` on port `raw[a]`; the outputs of axis `a` follow at once (R22). -/
def State.setRaw (s : State) (a : AxisIx) (v : Raw) : State := { s with inp := s.inp.setRaw a v }

/-- What every operation answers: its effect, where the configuration is well-formed; a refusal
before any effect, where it is not (R9, R94). No operation has any other way to stop (R93). -/
def perform (s : State) (effect : State) : Host.Outcome State Fault Refusal :=
  if s.cfg.wf then .next effect else .refused .illFormedConfig

/-! ## Inputs over time (R14) -/

/-- Inputs of which nothing is known: those of clock cycle `n` where none is queued. -/
def Inputs.free (n : Nat) : Inputs :=
  { rst := Config.freeRst n, tick := Config.freeTick n
    btn0 := Config.freeBtn .b0 n, btn1 := Config.freeBtn .b1 n
    raw0 := Config.freeRaw .a0 n, raw1 := Config.freeRaw .a1 n }

/-- The inputs `I(n + k)` of the cycle `k` cycles from now, `n` being the present cycle: the ports
as they are, then the queue, then free inputs. -/
def State.inputAt (s : State) : Nat → Inputs
  | 0 => s.inp
  | k + 1 =>
    match s.queue[k]? with
    | some i => i
    | none => Inputs.free (s.cycle + (k + 1))

/-- The next clock cycle begins: its inputs are on the ports. -/
def State.advance (s : State) : State :=
  { s with inp := s.inputAt 1, queue := s.queue.tail, cycle := s.cycle + 1 }

end Sys2Proof.Machine
end

