-- ==== Sys2Proof/Machine/Operands.lean ====
section
/-! DEFINITION. The encodings of values on signals (00_scope.md R12) and the forms in which operands
enter the axis arithmetic (30_encoding.md R48).

Each operand is given twice: as the integer the formulas are over (R12: "a formula never wraps"), and
as the vector the 13-bit data path carries. -/

namespace Sys2Proof.Machine

/-- `u_12(x)` (R12). -/
def u12 (x : Nat) : BitVec 12 := BitVec.ofNat 12 x

/-- `s_13(x)` (R12, R44). -/
def s13 (x : Int) : Adj := BitVec.ofInt 13 x

/-- `uval(v)` of a raw sample (R12): it is unsigned, `0xFFF` is 4095 (R48). -/
def uval (v : Raw) : Int := (v.toNat : Int)

/-- `sval(v)` of a value of the data path (R12). -/
def sval (v : Adj) : Int := v.toInt

/-- The raw sample in 13 bits: zero-extended (R48). -/
def rawOperand (v : Raw) : Adj := v.zeroExtend 13

/-- `CENTER[a]` in 13 bits: `zext_13` of `u_12(CENTER[a])` (R48). -/
def centerOperand (c : AxisConfig) : Adj := (u12 c.center).zeroExtend 13

/-- `NEG_CLAMP[a]` in 13 bits (R48). -/
def negClampOperand (c : AxisConfig) : Adj := s13 c.negClamp

/-- `POS_CLAMP[a]` in 13 bits (R48). -/
def posClampOperand (c : AxisConfig) : Adj := s13 c.posClamp

/-- `DEADZONE[a]` in 12 bits, compared unsigned with the magnitude (R48). -/
def deadzoneOperand (c : AxisConfig) : BitVec 12 := u12 c.deadzone

/-- The 12-bit unsigned magnitude of a value of the data path (R59). -/
def magnitude (v : Adj) : BitVec 12 := (if v.msb then -v else v).truncate 12

end Sys2Proof.Machine
end

