-- ==== Sys2Proof/Machine/Flags.lean ====
section
/-! DEFINITION. The status outputs (10_state.md R26), the poll strobe (42_top_level.md R83) and the
select vectors (30_encoding.md R50, R51). None is stored: each is recomputed from the state and the
input ports in every clock cycle. -/

namespace Sys2Proof.Machine

/-- `atrest` for a clamped value (R26, R59): its magnitude is the threshold or less. -/
def atRest (c : AxisConfig) (adjv : Int) : Bool := decide (adjv.natAbs ≤ c.deadzone)

/-- `busy[b]` (R72). -/
def Deb.busy (d : Deb) : Bool := d.pend

/-- `event[b]` (R26, R72): the last clock of a settle delay. -/
def Deb.event (d : Deb) : Bool := d.pend && decide (d.cnt = 0)

/-- `busy` (R82). -/
def State.busy (s : State) : Bool := s.deb0.busy || s.deb1.busy

/-- `event[b]` (R84). -/
def State.event (s : State) (b : BtnIx) : Bool := (s.deb b).event

/-- `poll[b]` in this clock cycle. In the ICB it is `tick AND NOT busy`, the same for both channels
(R83); a DEB alone has its own strobe, taken from `tick` (R54, log entry 3). -/
def State.poll (s : State) : Bool :=
  match s.target with
  | .icb => s.inp.tick && !s.busy
  | .deb _ => s.inp.tick
  | .axc _ => false

/-- The tick of this clock cycle is accepted (R15, 90_conflicts.md C4): the closing edge has
`tick = 1`, `busy = 0`, `rst = 0`. -/
def State.accepted (s : State) : Bool := s.inp.tick && !s.busy && !s.inp.rst

/-- The bit of a vector at position `i` (R11). -/
def bitAt {n : Nat} (i : Nat) (b : Bool) : BitVec n := if b then BitVec.ofNat n (2 ^ i) else 0

/-- `sel` of button channel `b` in this clock cycle (R50). -/
def State.sel (s : State) (b : BtnIx) : BitVec 5 :=
  bitAt 4 s.inp.rst ||| bitAt 3 (s.deb b).pend ||| bitAt 2 (decide ((s.deb b).cnt = 0))
    ||| bitAt 1 s.poll ||| bitAt 0 (s.inp.btn b).bit

/-- `tsel` of the block in this clock cycle (R51). -/
def State.tsel (s : State) : BitVec 3 :=
  bitAt 2 s.inp.rst ||| bitAt 1 s.busy ||| bitAt 0 s.inp.tick

/-- The stimulus word `in` of a clock cycle (R52): `rst`, `tick`, `btn[1]`, `btn[0]`, bit 3 down to
bit 0. -/
def Inputs.word (i : Inputs) : BitVec 4 :=
  bitAt 3 i.rst ||| bitAt 2 i.tick ||| bitAt 1 i.btn1.bit ||| bitAt 0 i.btn0.bit

/-- The inputs that a stimulus word spells, beside the raw samples a test names (R52). -/
def Inputs.ofWord (w : BitVec 4) (raw0 raw1 : Raw) : Inputs :=
  { rst := w.getLsbD 3, tick := w.getLsbD 2
    btn1 := Level.ofBit (w.getLsbD 1), btn0 := Level.ofBit (w.getLsbD 0)
    raw0 := raw0, raw1 := raw1 }

end Sys2Proof.Machine
end

