-- ==== Sys2Proof/Machine/Axis.lean ====
section
/-! DEFINITION. The axis conditioner (40_axis_conditioner.md): the operation `COND` and its four
stages, as the integer formulas of R57 to R61, and the 13-bit data path of R48 and R57 beside them
(R62: they agree). -/

namespace Sys2Proof.Machine

/-- The output ports of one axis channel (R16). -/
structure AxisOut where
  adj : Adj
  atrest : Bool
  filt : Adj
deriving DecidableEq, Repr

/-! ## The integer formulas -/

/-- `SUB` (R57): `delta = uval(raw) - CENTER`. -/
def axisDelta (c : AxisConfig) (raw : Raw) : Int := uval raw - c.center

/-- `CLAMP` (R58): `max(NEG_CLAMP, min(POS_CLAMP, delta))`. -/
def axisClamp (c : AxisConfig) (delta : Int) : Int := max c.negClamp (min c.posClamp delta)

/-- `adjv` (R58): the clamped value of a raw sample. -/
def axisAdj (c : AxisConfig) (raw : Raw) : Int := axisClamp c (axisDelta c raw)

/-- `filtv` (R60): 0 at rest, else the clamped value. -/
def axisFilt (c : AxisConfig) (raw : Raw) : Int :=
  if atRest c (axisAdj c raw) then 0 else axisAdj c raw

/-- `COND` (R61): the three outputs, functions of the raw sample and the constants alone. -/
def condOut (c : AxisConfig) (raw : Raw) : AxisOut :=
  { adj := s13 (axisAdj c raw), atrest := atRest c (axisAdj c raw), filt := s13 (axisFilt c raw) }

/-! ## The 13-bit data path -/

/-- Stage 1 (R57): 13-bit subtraction with the carry out dropped. -/
def pathDelta (c : AxisConfig) (raw : Raw) : Adj := rawOperand raw - centerOperand c

/-- Stage 2 (R58): two signed 13-bit comparisons, the upper bound first. -/
def pathClamp (c : AxisConfig) (delta : Adj) : Adj :=
  let upper := if (posClampOperand c).slt delta then posClampOperand c else delta
  if upper.slt (negClampOperand c) then negClampOperand c else upper

/-- Stage 2 in the opposite order, the lower bound first: R63 lets a design use either. -/
def pathClampLowerFirst (c : AxisConfig) (delta : Adj) : Adj :=
  let lower := if delta.slt (negClampOperand c) then negClampOperand c else delta
  if (posClampOperand c).slt lower then posClampOperand c else lower

/-- Stages 1 to 4 (R57 to R60) in 13 bits; the deadzone is compared unsigned in 12 bits. -/
def pathOut (c : AxisConfig) (raw : Raw) : AxisOut :=
  let adj := pathClamp c (pathDelta c raw)
  let rest := (magnitude adj).ule (deadzoneOperand c)
  { adj := adj, atrest := rest, filt := if rest then 0 else adj }

/-! ## The operation -/

/-- `COND` of axis channel `a` on the input word `raw` (R49, R61): the word stands on the port, and
the channel's outputs are, from then on, `condOut` of it (State.axisOut, Machine/Outputs.lean). The
channel holds no state (R22), so nothing else changes. -/
def execCond (a : AxisIx) (raw : Raw) (s : State) : Host.Outcome State Fault Refusal :=
  perform s (s.setRaw a raw)

end Sys2Proof.Machine
end

