-- ==== Sys2Proof/Machine/Button.lean ====
section
/-! DEFINITION. The button debouncer (41_button_debouncer.md): one definition for each of the five
operations of a channel, and the channel as one function (R73). -/

namespace Sys2Proof.Machine

/-! ## Operations on one channel's state -/

/-- `fire` (R68): the current level is pressed and the previous one was released. -/
def Deb.fires (d : Deb) (level : Level) : Bool :=
  decide (level = .pressed) && decide (d.prev = .released)

/-- `RESET` (R67). -/
def Deb.resetOp (_d : Deb) : Deb := { prev := Config.prevReset, pend := false, cnt := 0 }

/-- `POLL` (R68): remember the level, and start the settle delay where it fires. -/
def Deb.pollOp (d : Deb) (settleCycles : Nat) (level : Level) : Deb :=
  { prev := level, pend := d.fires level, cnt := if d.fires level then settleCycles else 0 }

/-- `COUNT` (R69): `cnt <- cnt - 1`. It is selected only where `cnt` is not 0; `below` is what the
counter holds afterwards where it is 0 (log entry 4). -/
def Deb.countOp (d : Deb) (below : Nat) : Deb :=
  { d with cnt := if d.cnt = 0 then below else d.cnt - 1 }

/-- `DELIVER` (R70): `pend <- 0`. -/
def Deb.deliverOp (d : Deb) : Deb := { d with pend := false }

/-- `HOLD` (R71): no write. -/
def Deb.holdOp (d : Deb) : Deb := d

/-- The count that `COUNT` leaves where none is stated: a free value of `SETTLE_W` bits (R18, R69, log
entry 4). -/
def State.freeCount (s : State) (b : BtnIx) : Nat := Config.freeCount b s.cycle % 2 ^ s.cfg.settleW

/-! ## Meanings -/

/-- `RESET` of channel `b` (R67). -/
def execReset (b : BtnIx) (s : State) : Host.Outcome State Fault Refusal :=
  perform s (s.setDeb b (s.deb b).resetOp)

/-- `COUNT` of channel `b` (R69). -/
def execCount (b : BtnIx) (s : State) : Host.Outcome State Fault Refusal :=
  perform s (s.setDeb b ((s.deb b).countOp (s.freeCount b)))

/-- `DELIVER` of channel `b` (R70). -/
def execDeliver (b : BtnIx) (s : State) : Host.Outcome State Fault Refusal :=
  perform s (s.setDeb b (s.deb b).deliverOp)

/-- `POLL` of channel `b` with the sampled level (R68). -/
def execPoll (b : BtnIx) (level : Level) (s : State) : Host.Outcome State Fault Refusal :=
  perform s (s.setDeb b ((s.deb b).pollOp s.cfg.settleCycles level))

/-- `HOLD` of channel `b` (R71). -/
def execHold (b : BtnIx) (s : State) : Host.Outcome State Fault Refusal :=
  perform s (s.setDeb b (s.deb b).holdOp)

/-! ## The channel as one function -/

/-- `deb_step` (R73), line by line. -/
def debStep (settleCycles : Nat) (d : Deb) (rst poll : Bool) (level : Level) : Deb :=
  if rst then ⟨Config.prevReset, false, 0⟩
  else if d.pend ∧ d.cnt ≠ 0 then ⟨d.prev, true, d.cnt - 1⟩
  else if d.pend then ⟨d.prev, false, 0⟩
  else if poll then ⟨level, d.fires level, if d.fires level then settleCycles else 0⟩
  else d

end Sys2Proof.Machine
end

