-- ==== Sys2Proof/Machine/Block.lean ====
section
/-! DEFINITION. The block as a whole (42_top_level.md): the four block-level operations, and the step
of the block as one function (R84). -/

namespace Sys2Proof.Machine

/-- What a channel does in `T.STALL` (R86): `COUNT` or `DELIVER` where it is settling, else `HOLD`. -/
def Deb.stallOp (d : Deb) (below : Nat) : Deb :=
  if d.pend then (if d.cnt = 0 then d.deliverOp else d.countOp below) else d.holdOp

/-- `T.RESET` (R85): both channels perform `RESET`. -/
def execTReset (s : State) : Host.Outcome State Fault Refusal :=
  perform s (s.setDebs s.deb0.resetOp s.deb1.resetOp)

/-- `T.STALL` (R86): settling channels `COUNT` or `DELIVER`, the other `HOLD`s. -/
def execTStall (s : State) : Host.Outcome State Fault Refusal :=
  perform s (s.setDebs (s.deb0.stallOp (s.freeCount .b0)) (s.deb1.stallOp (s.freeCount .b1)))

/-- `T.SAMPLE` (R87): both channels perform `POLL` at the same edge, each with its own level. -/
def execTSample (s : State) : Host.Outcome State Fault Refusal :=
  perform s
    (s.setDebs (s.deb0.pollOp s.cfg.settleCycles s.inp.btn0)
      (s.deb1.pollOp s.cfg.settleCycles s.inp.btn1))

/-- `T.IDLE` (R88): both channels perform `HOLD`. -/
def execTIdle (s : State) : Host.Outcome State Fault Refusal :=
  perform s (s.setDebs s.deb0.holdOp s.deb1.holdOp)

/-- `step(S, I)` (R84), line by line. -/
def blockStep (settleCycles : Nat) (d0 d1 : Deb) (i : Inputs) : Deb × Deb :=
  let busy := d0.pend || d1.pend
  let poll := i.tick && !busy
  (debStep settleCycles d0 i.rst poll i.btn0, debStep settleCycles d1 i.rst poll i.btn1)

end Sys2Proof.Machine
end

