-- ==== Sys2Proof/Machine/Dispatch.lean ====
section
/-! DEFINITION. The dispatch: one arm for each operation of spec/opcode_table.json, each calling the
operation's own meaning. -/

namespace Sys2Proof.Machine

def exec (i : Instr) (s : State) : Host.Outcome State Fault Refusal :=
  match i with
  | .cond a raw => Sys2Proof.Machine.execCond a raw s
  | .reset b => Sys2Proof.Machine.execReset b s
  | .count b => Sys2Proof.Machine.execCount b s
  | .deliver b => Sys2Proof.Machine.execDeliver b s
  | .poll b level => Sys2Proof.Machine.execPoll b level s
  | .hold b => Sys2Proof.Machine.execHold b s
  | .tReset => Sys2Proof.Machine.execTReset s
  | .tStall => Sys2Proof.Machine.execTStall s
  | .tSample => Sys2Proof.Machine.execTSample s
  | .tIdle => Sys2Proof.Machine.execTIdle s

end Sys2Proof.Machine
end

