-- ==== Sys2Proof/Machine/Outputs.lean ====
section
/-! DEFINITION. The output ports (10_state.md R16): what the block gives out during a clock cycle, a
function of its state and of the samples on `raw[a]` (R14, R84). -/

namespace Sys2Proof.Machine

/-- The output ports of the block (R16). -/
structure Outputs where
  axis0 : AxisOut
  axis1 : AxisOut
  event0 : Bool
  event1 : Bool
  busy : Bool
deriving DecidableEq, Repr

/-- `adj[a]`, `atrest[a]` and `filt[a]` in this clock cycle (`outa` of R84): `COND` of the sample now
on the port. -/
def State.axisOut (s : State) (a : AxisIx) : AxisOut := condOut (s.cfg.axis a) (s.inp.raw a)

/-- The outputs in this clock cycle, of a well-formed configuration; any other has none (R9).
DESIGN CHOICE (log entry 3): these are the ports of the whole ICB whatever part the inputs drive.
Where one channel is used alone its own outputs are those of R72, `Deb.busy` and `Deb.event` of its
state (or `State.axisOut` of an AXC); the `busy` here still has the undriven channel's `pend` in it. -/
def State.outputs (s : State) : Option Outputs :=
  if s.cfg.wf then
    some
      { axis0 := s.axisOut .a0, axis1 := s.axisOut .a1
        event0 := s.event .b0, event1 := s.event .b1, busy := s.busy }
  else none

end Sys2Proof.Machine
end

