-- ==== Sys2Proof/Machine/Select.lean ====
section
/-! DEFINITION. What stands in the place of an instruction fetch: the select words of a clock cycle,
and how a select word is brought about at the ports and in the state. -/

namespace Sys2Proof.Machine

/-- The select words that act in this clock cycle. In the ICB each axis channel conditions the sample
on its port, continuously (R49), and the block performs what `tsel` selects (R51). A channel used
alone performs what its own word selects (R49, R50). -/
def State.words (s : State) : List SelWord :=
  match s.target with
  | .icb => [.axc .a0 s.inp.raw0, .axc .a1 s.inp.raw1, .top s.tsel]
  | .deb b => [.deb b (s.sel b)]
  | .axc a => [.axc a (s.inp.raw a)]

/-- Make `busy` the bit `v`: where it must rise, channel 0 is made to settle; where it must fall,
neither channel settles. -/
def State.forceBusy (s : State) (v : Bool) : State :=
  if v then (if s.busy then s else { s with deb0 := { s.deb0 with pend := true } })
  else { s with deb0 := { s.deb0 with pend := false }, deb1 := { s.deb1 with pend := false } }

/-- Make the `zero` bit of a channel (R50) the bit `v`: a count of 0, or one that is not. -/
def Deb.forceZero (d : Deb) (v : Bool) : Deb :=
  if v then { d with cnt := 0 } else if d.cnt = 0 then { d with cnt := 1 } else d

/-- Bring the select word `w` about as the word of the present clock cycle: the part it stands at is
the one the inputs drive, and the inputs and the state bits that the word is assembled from (R50,
R51) have the word's values. Nothing else changes. -/
def State.present (s : State) (w : SelWord) : State :=
  match w with
  | .axc a raw => { s.setRaw a raw with target := .axc a }
  | .deb b sel =>
    { s.setDeb b (Deb.forceZero { s.deb b with pend := sel.getLsbD 3 } (sel.getLsbD 2)) with
      target := .deb b
      inp :=
        { s.inp.setBtn b (Level.ofBit (sel.getLsbD 0)) with
          rst := sel.getLsbD 4, tick := sel.getLsbD 1 } }
  | .top tsel =>
    { s.forceBusy (tsel.getLsbD 1) with
      target := .icb
      inp := { s.inp with rst := tsel.getLsbD 2, tick := tsel.getLsbD 0 } }

end Sys2Proof.Machine
end

