-- ==== Sys2Proof/Machine/Step.lean ====
section
/-! DEFINITION. One step: one clock cycle (00_scope.md R14, 42_top_level.md R84). -/

namespace Sys2Proof.Machine

/-- Perform operations one after the other, stopping at the first that does not answer a next state.
Operations of one clock cycle write different elements, so their order does not matter (R38). -/
def execAll : List Instr → State → Host.Outcome State Fault Refusal
  | [], s => .next s
  | i :: rest, s =>
    match exec i s with
    | .next t => execAll rest t
    | .fault r => .fault r
    | .refused r => .refused r

/-- The operations of this clock cycle: what its select words decode to. -/
def State.operations (s : State) : List Instr := s.words.map decode

/-- One step of the machine: the operations of the clock cycle, and then the inputs of the next. -/
def step (s : State) : Host.Outcome State Fault Refusal :=
  match execAll s.operations s with
  | .next t => .next t.advance
  | .fault r => .fault r
  | .refused r => .refused r

/-- The state in which the next step runs the operation that the table word `w` selects (log entry
2); a word that no format has changes nothing. -/
def State.withFetchWord (s : State) (nbits w : Nat) : State :=
  match readTableWord nbits w with
  | .ok word => s.present word
  | .error _ => s

end Sys2Proof.Machine
end

