-- ==== Sys2Proof/Machine/Script.lean ====
section
/-! DEFINITION. The stimulus script (30_encoding.md R56): the spec's notation for driving the block,
with its five statements and six pseudo-statements.

The held values `B0`, `B1`, `RAW0`, `RAW1` are the values on the input ports of the state the script
has reached; the clock counter `n` is its cycle number. -/

namespace Sys2Proof.Machine

/-- One `NAME=value` of a `cfg` statement (R56): a parameter of R8, or all four of an axis. -/
inductive CfgItem where
  | axis (a : AxisIx) (c : AxisConfig)
  | center (a : AxisIx) (v : Nat)
  | negClamp (a : AxisIx) (v : Int)
  | posClamp (a : AxisIx) (v : Int)
  | deadzone (a : AxisIx) (v : Nat)
  | settleCycles (v : Nat)
  | settleW (v : Nat)
  | fClk (v : Nat)
deriving DecidableEq, Repr

/-- One `name=value` of an `expect` statement (R56): an output or an element of the state. -/
inductive Check where
  | busy (v : Bool)
  | event (b : BtnIx) (v : Bool)
  | adj (a : AxisIx) (v : Int)
  | atrest (a : AxisIx) (v : Bool)
  | filt (a : AxisIx) (v : Int)
  | prev (b : BtnIx) (v : Level)
  | pend (b : BtnIx) (v : Bool)
  | cnt (b : BtnIx) (v : Nat)
deriving DecidableEq, Repr

/-- A statement of a script (R56). -/
inductive Stmt where
  | cfg (items : List CfgItem)
  | btn (b : BtnIx) (v : Level)
  | raw (a : AxisIx) (v : Raw)
  | step (r t : Bool)
  | expect (checks : List Check)
deriving DecidableEq, Repr

/-- A line of a script: a statement or a pseudo-statement (R56). -/
inductive Line where
  | stmt (s : Stmt)
  | reset
  | tick
  | idle (k : Nat)
  | press (b : BtnIx)
  | release (b : BtnIx)
  | settle
deriving DecidableEq, Repr

/-- The expansions of R56, for a settle delay of `settleCycles`. -/
def Line.expand (settleCycles : Nat) : Line → List Stmt
  | .stmt s => [s]
  | .reset => [.step true false]
  | .tick => [.step false true]
  | .idle k => List.replicate k (.step false false)
  | .press b => [.btn b .pressed]
  | .release b => [.btn b .released]
  | .settle => List.replicate (settleCycles + 1) (.step false false)

/-- Fix one parameter (R8, R56). -/
def CfgItem.apply (c : Config) (item : CfgItem) : Config :=
  let setAxis (a : AxisIx) (x : AxisConfig) : Config :=
    match a with
    | .a0 => { c with axis0 := x }
    | .a1 => { c with axis1 := x }
  match item with
  | .axis a x => setAxis a x
  | .center a v => setAxis a { c.axis a with center := v }
  | .negClamp a v => setAxis a { c.axis a with negClamp := v }
  | .posClamp a v => setAxis a { c.axis a with posClamp := v }
  | .deadzone a v => setAxis a { c.axis a with deadzone := v }
  | .settleCycles v => { c with settleCycles := v }
  | .settleW v => { c with settleW := v }
  | .fClk v => { c with fClk := v }

/-- The configuration a script fixes, over the instance `c`. -/
def scriptConfig (c : Config) : List Line → Config
  | [] => c
  | .stmt (.cfg items) :: rest => scriptConfig (items.foldl CfgItem.apply c) rest
  | _ :: rest => scriptConfig c rest

/-- What an `expect` statement checks, of the outputs and the state during a clock cycle. -/
def Check.holds (s : State) : Check → Bool
  | .busy v => s.busy == v
  | .event b v => s.event b == v
  | .adj a v => sval (s.axisOut a).adj == v
  | .atrest a v => (s.axisOut a).atrest == v
  | .filt a v => sval (s.axisOut a).filt == v
  | .prev b v => (s.deb b).prev == v
  | .pend b v => (s.deb b).pend == v
  | .cnt b v => (s.deb b).cnt == v

/-- Why a script has no end state. -/
inductive ScriptStop where
  /-- an `expect` statement does not hold -/
  | expectFails
  /-- a `cfg` statement after the first clock -/
  | cfgAfterClock
  /-- the configuration is ill-formed: it is given no step and no output (R9, R94) -/
  | refused
deriving DecidableEq, Repr

/-- The state during the cycle that is about to be stepped, with `rst = r` and `tick = t` on the ports
and the held values on the others; they stay on the ports in the next cycle, without a strobe. -/
def State.stimulate (s : State) (r t : Bool) : State :=
  { s with inp := { s.inp with rst := r, tick := t }
           queue := [{ s.inp with rst := false, tick := false }] }

/-- Run the statements of a script (R56), read top to bottom. -/
def runStmts : List Stmt → State → Except ScriptStop State
  | [], s => .ok s
  | .cfg _ :: rest, s => if s.cycle = 0 then runStmts rest s else .error .cfgAfterClock
  | .btn b v :: rest, s => runStmts rest { s with inp := s.inp.setBtn b v }
  | .raw a v :: rest, s => runStmts rest (s.setRaw a v)
  | .step r t :: rest, s =>
    match step (s.stimulate r t) with
    | .next s' => runStmts rest s'
    | .fault _ => .error .refused
    | .refused _ => .error .refused
  | .expect checks :: rest, s =>
    if checks.all (Check.holds s) then runStmts rest s else .error .expectFails

/-- The statements of a script, pseudo-statements expanded (R56). -/
def scriptStmts (c : Config) (lines : List Line) : List Stmt :=
  lines.flatMap (Line.expand c.settleCycles)

/-- Run a script over the instance `c`, from the reset state of the configuration it fixes. -/
def runScript (c : Config) (lines : List Line) : Except ScriptStop State :=
  if (scriptConfig c lines).wf then
    runStmts (scriptStmts (scriptConfig c lines) lines) (State.resetWith (scriptConfig c lines))
  else .error .refused

/-- The inputs of a script's clock cycles, from the held values `held`. -/
def stmtInputs : List Stmt → Inputs → List Inputs
  | [], _ => []
  | .cfg _ :: rest, held => stmtInputs rest held
  | .btn b v :: rest, held => stmtInputs rest (held.setBtn b v)
  | .raw a v :: rest, held => stmtInputs rest (held.setRaw a v)
  | .step r t :: rest, held => { held with rst := r, tick := t } :: stmtInputs rest held
  | .expect _ :: rest, held => stmtInputs rest held

/-- The encoding of a script (95_test_vectors.md section 3): one stimulus word per clock (R52). -/
def scriptWords (c : Config) (lines : List Line) : List (BitVec 4) :=
  (stmtInputs (scriptStmts (scriptConfig c lines) lines)
    (Inputs.initial (scriptConfig c lines))).map Inputs.word

end Sys2Proof.Machine
end

