-- ==== Sys2Proof/Safety.lean ====
section
/-! DEFINITION. What counts as a good state and what is counted along a run, in the terms the
statements use. -/

namespace Sys2Proof.Machine

/-- A button channel as the rules leave it (R21), with one more fact of R68 and R70: while it
settles, `prev` is the pressed level that fired. -/
abbrev Deb.Ok (settleCycles : Nat) (d : Deb) : Prop :=
  (d.pend = false → d.cnt = 0) ∧ d.cnt ≤ settleCycles ∧ (d.pend = true → d.prev = .pressed)

/-- The invariant of the machine: the configuration is well-formed (R9), each channel is as R21 says,
and in the ICB two settling channels are in step (R91). -/
abbrev State.Inv (s : State) : Prop :=
  s.cfg.wf = true ∧ s.deb0.Ok s.cfg.settleCycles ∧ s.deb1.Ok s.cfg.settleCycles
    ∧ (s.target = .icb → s.deb0.pend = true → s.deb1.pend = true → s.deb0.cnt = s.deb1.cnt)

/-- Each count fits its `SETTLE_W` bits (R18, R47). -/
abbrev State.CountsFit (s : State) : Prop :=
  s.deb0.cnt < 2 ^ s.cfg.settleW ∧ s.deb1.cnt < 2 ^ s.cfg.settleW

/-- Everything but the two button channels is as before. -/
abbrev State.SameSurroundings (s t : State) : Prop :=
  t.cfg = s.cfg ∧ t.target = s.target ∧ t.inp = s.inp ∧ t.queue = s.queue ∧ t.cycle = s.cycle

/-- `k` steps of the machine (the host's run of its core), stopping at the first that answers no next
state. -/
def runFor (k : Nat) (s : State) : Host.Outcome State Fault Refusal := Sys2Proof.core.run k s

/-- The number of clock cycles with `event[b] = 1` among the next `k`, the present one first. -/
def eventPulses (b : BtnIx) : Nat → State → Nat
  | 0, _ => 0
  | k + 1, s =>
    (if s.event b then 1 else 0) +
      (match step s with
       | .next t => eventPulses b k t
       | .fault _ => 0
       | .refused _ => 0)

/-- The levels that the polls of channel `b` sample in the next `k` clock cycles of the ICB, in order:
those of `btn[b]` at the accepted ticks (R15, R87). -/
def sampledLevels (b : BtnIx) : Nat → State → List Level
  | 0, _ => []
  | k + 1, s =>
    (if s.accepted then [s.inp.btn b] else []) ++
      (match step s with
       | .next t => sampledLevels b k t
       | .fault _ => []
       | .refused _ => [])

/-- The number of released-to-pressed transitions between consecutive levels, `last` being the one
before the first. -/
def pressEdges (last : Level) : List Level → Nat
  | [] => 0
  | l :: rest => (if last = .released ∧ l = .pressed then 1 else 0) + pressEdges l rest

end Sys2Proof.Machine
end

