-- ==== Sys2Proof/Certificates/Slice0/Obligations.lean ====
section
/-! DEFINITION. The statements for the provers. Each docstring names the rule of spec/ it formalises;
a rule is named as formalised only where the statement says all that the rule says of the machine. -/

open Sys2Proof Sys2Proof.Machine

/-! ## Reset, configuration, completion -/

/-- R30: the reset state and its outputs, for every instance and whatever is on the input ports; a
button held at the first accepted tick fires. -/
def Obligations.ResetStateHasTheSpecifiedValues : Prop :=
  ∀ c : Config, c.wf = true →
    (∀ b, (State.resetWith c).deb b = ⟨.released, false, 0⟩) ∧
    (∀ i : Inputs, ∃ o, State.outputs { State.resetWith c with inp := i } = some o ∧
      o.busy = false ∧ o.event0 = false ∧ o.event1 = false ∧
      o.axis0 = condOut c.axis0 i.raw0 ∧ o.axis1 = condOut c.axis1 i.raw1) ∧
    (∀ (i : Inputs) (b : BtnIx), i.rst = false → i.tick = true → i.btn b = .pressed →
      ∃ t, step { State.resetWith c with inp := i } = .next t ∧
        t.deb b = ⟨.pressed, true, c.settleCycles⟩)

/-- The invariant holds at reset, of every instance and of `State.reset` (whose constants are the
model's choice, log entry 1). -/
def Obligations.ResetMeetsTheInvariant : Prop :=
  (∀ c : Config, c.wf = true → (State.resetWith c).Inv) ∧ State.reset.Inv

/-- Every step keeps the invariant (R21 and R91, which the spec derives, and `prev` pressed while
settling), from every state that meets it, whatever is on the input ports. -/
def Obligations.StepKeepsTheInvariant : Prop :=
  ∀ s t : State, s.Inv → step s = .next t → t.Inv

/-- R21 (which the spec derives), for every instance, every sequence of inputs (those queued and the
free ones after them) and every number of steps from the reset state. -/
def Obligations.ReachableCountsMatchThePhase : Prop :=
  ∀ (c : Config) (i : Inputs) (q : List Inputs) (k : Nat) (t : State), c.wf = true →
    runFor k { State.resetWith c with inp := i, queue := q } = .next t →
      ∀ b, ((t.deb b).pend = false → (t.deb b).cnt = 0) ∧ (t.deb b).cnt ≤ c.settleCycles

/-- R9: which configurations are well-formed (every range of R8, `F_CLK` among them), and that any
other is given no step and no output. That each single operation is refused too, and by this name, is
the model's choice (log entry 11); so is the whole hertz of `F_CLK` (log entry 9). -/
def Obligations.IllFormedConfigurationIsRefused : Prop :=
  (∀ c : Config, c.wf = true ↔
    (∀ a, (c.axis a).center ≤ 4095 ∧ -4095 ≤ (c.axis a).negClamp ∧ (c.axis a).negClamp ≤ 0 ∧
      0 ≤ (c.axis a).posClamp ∧ (c.axis a).posClamp ≤ 4095 ∧ (c.axis a).deadzone ≤ 4095) ∧
    1 ≤ c.settleW ∧ c.settleCycles ≤ 2 ^ c.settleW - 1 ∧ 0 < c.fClk) ∧
  (∀ s : State, s.cfg.wf = false →
    (∀ i : Instr, exec i s = .refused .illFormedConfig) ∧
    step s = .refused .illFormedConfig ∧ s.outputs = none)

/-- Every operation and every step of a well-formed configuration answers a next state, in every
state and for every operand; the outputs are then given too. -/
def Obligations.EveryOperationAndStepCompletes : Prop :=
  ∀ s : State, s.cfg.wf = true →
    (∀ i : Instr, ∃ t, exec i s = .next t) ∧ (∃ t, step s = .next t) ∧ (∃ o, s.outputs = some o)

/-- The frame common to all operations: none changes the constants, the part driven, the clocked
inputs (strobes and levels), the inputs to come or the cycle number; `COND` changes no button channel,
and no other operation changes a sample. A step changes neither the constants nor the part driven. -/
def Obligations.OperationsKeepTheInstanceAndTheClockedInputs : Prop :=
  (∀ (i : Instr) (s t : State), exec i s = .next t →
    t.cfg = s.cfg ∧ t.target = s.target ∧ t.queue = s.queue ∧ t.cycle = s.cycle ∧
    t.inp.rst = s.inp.rst ∧ t.inp.tick = s.inp.tick ∧ (∀ b, t.inp.btn b = s.inp.btn b) ∧
    ((∃ a raw, i = .cond a raw) → ∀ b, t.deb b = s.deb b) ∧
    ((∀ a raw, i ≠ .cond a raw) → ∀ a, t.inp.raw a = s.inp.raw a ∧ t.axisOut a = s.axisOut a)) ∧
  (∀ s t : State, step s = .next t → t.cfg = s.cfg ∧ t.target = s.target)

/-! ## Select words -/

/-- R53 (which the spec derives): every select word matches exactly one row of its format's table,
and that row is the operation the decoder reads. -/
def Obligations.EverySelectWordMatchesExactlyOneRow : Prop :=
  ∀ w : SelWord,
    ((opRows w.format).filter (fun r => r.selectedBy w.bits)).map OpRow.op = [(decode w).op]

/-- Decoding an encoded operation gives it back, with every operand at every value and every unread
bit at either value. -/
def Obligations.DecodeOfEncodeIsTheOperation : Prop :=
  ∀ (i : Instr) (fill : BitVec 5), decode (encodeWith i fill) = i

/-- Every select word is an encoding of the operation it selects. -/
def Obligations.EverySelectWordEncodesItsOperation : Prop :=
  ∀ w : SelWord, ∃ fill : BitVec 5, encodeWith (decode w) fill = w

/-- Words written out from R49, R50 and R51 (and from 95_test_vectors.md sections 2.2 and 2.3)
select the operations the tables name. -/
def Obligations.WrittenOutWordsDecode : Prop :=
  decode (.axc .a1 0xFFF#12) = .cond .a1 0xFFF#12 ∧
  decode (.deb .b0 0b11110#5) = .reset .b0 ∧
  decode (.deb .b1 0b01011#5) = .count .b1 ∧
  decode (.deb .b0 0b01111#5) = .deliver .b0 ∧
  decode (.deb .b1 0b00110#5) = .poll .b1 .pressed ∧
  decode (.deb .b0 0b00011#5) = .poll .b0 .released ∧
  decode (.deb .b1 0b00101#5) = .hold .b1 ∧
  decode (.top 0b111#3) = .tReset ∧
  decode (.top 0b011#3) = .tStall ∧
  decode (.top 0b001#3) = .tSample ∧
  decode (.top 0b000#3) = .tIdle

/-- R52: the stimulus word spells `rst`, `tick`, `btn[1]`, `btn[0]` in bits 3 to 0, and nothing of
the raw samples. -/
def Obligations.StimulusWordSpellsTheClockedInputs : Prop :=
  (∀ (w : BitVec 4) (r0 r1 : Raw),
    (Inputs.ofWord w r0 r1).word = w ∧
    ((Inputs.ofWord w r0 r1).rst = w.getLsbD 3) ∧ ((Inputs.ofWord w r0 r1).tick = w.getLsbD 2) ∧
    ((Inputs.ofWord w r0 r1).btn1 = .released ↔ w.getLsbD 1 = true) ∧
    ((Inputs.ofWord w r0 r1).btn0 = .released ↔ w.getLsbD 0 = true) ∧
    (Inputs.ofWord w r0 r1).raw0 = r0 ∧ (Inputs.ofWord w r0 r1).raw1 = r1) ∧
  (∀ i : Inputs, Inputs.ofWord i.word i.raw0 i.raw1 = i)

/-- A step runs what the select word of the clock cycle decodes to, and then the next inputs are on
the ports: in the ICB the block-level operation (the two `COND`s of the samples on the ports leave
the state as it is), in a channel used alone that channel's operation. -/
def Obligations.StepRunsTheSelectedOperation : Prop :=
  ∀ s : State, s.cfg.wf = true →
    (s.target = .icb →
      (∀ a, exec (decode (.axc a (s.inp.raw a))) s = .next s) ∧
      ∃ t, exec (decode (.top s.tsel)) s = .next t ∧
        step s = .next { t with
          inp := s.inputAt 1, queue := s.queue.tail, cycle := s.cycle + 1 }) ∧
    (∀ b, s.target = .deb b →
      ∃ t, exec (decode (.deb b (s.sel b))) s = .next t ∧
        step s = .next { t with
          inp := s.inputAt 1, queue := s.queue.tail, cycle := s.cycle + 1 }) ∧
    (∀ a, s.target = .axc a →
      ∃ t, exec (decode (.axc a (s.inp.raw a))) s = .next t ∧
        step s = .next { t with
          inp := s.inputAt 1, queue := s.queue.tail, cycle := s.cycle + 1 })

/-- A word of the opcode table, placed in any state, is what the next step runs (the model's reading
of table words, log entry 2); placing it changes neither the constants nor the inputs to come. -/
def Obligations.PlacedTableWordIsRunByTheNextStep : Prop :=
  ∀ (s : State) (nbits w : Nat) (i : Instr), s.cfg.wf = true → decodeTableWord nbits w = some i →
    (s.withFetchWord nbits w).cfg = s.cfg ∧ (s.withFetchWord nbits w).queue = s.queue ∧
    (s.withFetchWord nbits w).cycle = s.cycle ∧
    ∃ t, exec i (s.withFetchWord nbits w) = .next t ∧
      step (s.withFetchWord nbits w) =
        .next { t with inp := s.inputAt 1, queue := s.queue.tail, cycle := s.cycle + 1 }

/-! ## The axis channels -/

/-- R61: what `COND` puts on the output ports of its channel, for every sample and every well-formed
instance, and that it changes nothing else: not the other axis, not a button channel, not a flag of
theirs. -/
def Obligations.CondDrivesItsOutputsAndNothingElse : Prop :=
  ∀ (a : AxisIx) (raw : Raw) (s : State), s.cfg.wf = true →
    ∃ t, exec (.cond a raw) s = .next t ∧
      (∀ v : Int, v = max (s.cfg.axis a).negClamp
          (min (s.cfg.axis a).posClamp ((raw.toNat : Int) - (s.cfg.axis a).center)) →
        (t.axisOut a).adj = s13 v ∧
        ((t.axisOut a).atrest = true ↔ v.natAbs ≤ (s.cfg.axis a).deadzone) ∧
        (t.axisOut a).filt = s13 (if v.natAbs ≤ (s.cfg.axis a).deadzone then 0 else v)) ∧
      t.inp.raw a = raw ∧
      (∀ a', a' ≠ a → t.inp.raw a' = s.inp.raw a' ∧ t.axisOut a' = s.axisOut a') ∧
      (∀ b, t.deb b = s.deb b ∧ t.event b = s.event b ∧ t.inp.btn b = s.inp.btn b) ∧
      t.busy = s.busy ∧ t.inp.rst = s.inp.rst ∧ t.inp.tick = s.inp.tick ∧
      t.cfg = s.cfg ∧ t.target = s.target ∧ t.queue = s.queue ∧ t.cycle = s.cycle

/-- R57: the subtraction is exact, its 13-bit form equals it, and a sample below the centre gives a
negative difference. -/
def Obligations.SubtractionOfTheCentreIsExact : Prop :=
  ∀ (c : AxisConfig) (raw : Raw), c.wf = true →
    axisDelta c raw = (raw.toNat : Int) - c.center ∧
    -(c.center : Int) ≤ axisDelta c raw ∧ axisDelta c raw ≤ 4095 - c.center ∧
    pathDelta c raw = s13 (axisDelta c raw) ∧ sval (pathDelta c raw) = axisDelta c raw ∧
    (raw.toNat = c.center → axisDelta c raw = 0) ∧
    (raw.toNat < c.center ↔ (pathDelta c raw).getLsbD 12 = true)

/-- R58: the clamp spelled as cases, and its corner cases. -/
def Obligations.ClampIsTheThreeCases : Prop :=
  ∀ c : AxisConfig, c.wf = true →
    (∀ d : Int, axisClamp c d = max c.negClamp (min c.posClamp d) ∧
      axisClamp c d = min c.posClamp (max c.negClamp d) ∧
      (c.posClamp < d → axisClamp c d = c.posClamp) ∧
      (d < c.negClamp → axisClamp c d = c.negClamp) ∧
      (c.negClamp ≤ d → d ≤ c.posClamp → axisClamp c d = d)) ∧
    (c.posClamp = 0 → ∀ d : Int, 0 < d → axisClamp c d = 0) ∧
    (c.negClamp = 0 → ∀ d : Int, d < 0 → axisClamp c d = 0) ∧
    (c.posClamp = 0 → c.negClamp = 0 → ∀ raw, axisAdj c raw = 0 ∧ (condOut c raw).adj = 0) ∧
    (4095 - (c.center : Int) ≤ c.posClamp → ∀ raw, axisDelta c raw ≤ c.posClamp) ∧
    (c.negClamp ≤ -(c.center : Int) → ∀ raw, c.negClamp ≤ axisDelta c raw) ∧
    (∀ raw, sval (condOut c raw).adj = axisClamp c (axisDelta c raw))

/-- R59: the at-rest flag is the unsigned comparison of the clamped value's magnitude with the
threshold, the boundary belonging to rest, and its corner cases. -/
def Obligations.AtRestIsTheDeadzoneComparison : Prop :=
  ∀ c : AxisConfig, c.wf = true →
    (∀ raw, (condOut c raw).atrest = true ↔ (axisAdj c raw).natAbs ≤ c.deadzone) ∧
    (∀ raw, (axisAdj c raw).natAbs ≤ 4095 ∧
      (magnitude (condOut c raw).adj).toNat = (axisAdj c raw).natAbs) ∧
    atRest c 0 = true ∧
    (c.deadzone = 0 → ∀ v : Int, v ≠ 0 → atRest c v = false) ∧
    (∀ v : Int, atRest c (-v) = atRest c v) ∧
    (max (-c.negClamp) c.posClamp ≤ c.deadzone → ∀ raw, (condOut c raw).atrest = true)

/-- R60: `filt` is `adj` outside the deadzone, bit for bit, and 0 inside it, and its corner cases.
-/
def Obligations.FiltIsAdjOutsideTheDeadzone : Prop :=
  ∀ (c : AxisConfig) (raw : Raw), c.wf = true →
    (condOut c raw).filt = s13 (if (condOut c raw).atrest = true then 0 else axisAdj c raw) ∧
    ((condOut c raw).atrest = true → (condOut c raw).filt = 0) ∧
    ((condOut c raw).atrest = false →
      (condOut c raw).filt = (condOut c raw).adj ∧
      c.deadzone + 1 ≤ (sval (condOut c raw).filt).natAbs) ∧
    (c.deadzone = 0 → (condOut c raw).filt = (condOut c raw).adj)

/-- R62 (which the spec derives): every value of the data path is in its range, the 13-bit path
gives exactly the integer formula, and the pattern `0x1000` never appears. -/
def Obligations.ThirteenBitPathEqualsTheIntegerFormula : Prop :=
  ∀ (c : AxisConfig) (raw : Raw), c.wf = true →
    (-4095 ≤ axisDelta c raw ∧ axisDelta c raw ≤ 4095) ∧
    (c.negClamp ≤ axisAdj c raw ∧ axisAdj c raw ≤ c.posClamp) ∧
    (-4095 ≤ axisAdj c raw ∧ axisAdj c raw ≤ 4095 ∧ (axisAdj c raw).natAbs ≤ 4095) ∧
    (sval (condOut c raw).adj = axisAdj c raw ∧ sval (condOut c raw).filt = axisFilt c raw) ∧
    sval (pathDelta c raw) = axisDelta c raw ∧ pathOut c raw = condOut c raw ∧
    ((condOut c raw).adj ≠ 0x1000#13 ∧ (condOut c raw).filt ≠ 0x1000#13)

/-- R63 (which the spec derives): the clamp gives the same result in either order, and which one, for
every two bounds in order and every integer; and the 13-bit comparisons of R58 give that result too,
in either order, for every pattern of 13 bits. -/
def Obligations.ClampOrderDoesNotMatter : Prop :=
  (∀ (c : AxisConfig) (d : Int), c.negClamp ≤ c.posClamp →
    axisClamp c d = min c.posClamp (max c.negClamp d) ∧
    (d < c.negClamp → axisClamp c d = c.negClamp) ∧
    (c.negClamp ≤ d → d ≤ c.posClamp → axisClamp c d = d) ∧
    (c.posClamp < d → axisClamp c d = c.posClamp)) ∧
  (∀ (c : AxisConfig) (v : Adj), c.wf = true →
    sval (pathClamp c v) = axisClamp c (sval v) ∧ pathClampLowerFirst c v = pathClamp c v)

/-- R64 (which the spec derives): the centre maps to zero, at rest, whatever the other constants
are. -/
def Obligations.CentreMapsToZeroAtRest : Prop :=
  ∀ (c : AxisConfig) (raw : Raw), c.wf = true → raw.toNat = c.center →
    axisDelta c raw = 0 ∧ axisAdj c raw = 0 ∧ axisFilt c raw = 0 ∧
    condOut c raw = { adj := 0, atrest := true, filt := 0 }

/-- R65 (which the spec derives): the adjusted and the filtered value never fall as the sample
rises; where the adjusted value is constant, where it rises by one per step; and for which samples
the axis is at rest. -/
def Obligations.AdjustedValueIsMonotone : Prop :=
  ∀ c : AxisConfig, c.wf = true →
    (∀ r r' : Raw, r.toNat ≤ r'.toNat →
      axisAdj c r ≤ axisAdj c r' ∧ axisFilt c r ≤ axisFilt c r') ∧
    (∀ r : Raw, (r.toNat : Int) ≤ c.center + c.negClamp → axisAdj c r = c.negClamp) ∧
    (∀ r r' : Raw, r'.toNat = r.toNat + 1 → c.center + c.negClamp ≤ r.toNat →
      (r'.toNat : Int) ≤ c.center + c.posClamp → axisAdj c r' = axisAdj c r + 1) ∧
    (∀ r : Raw, c.center + c.posClamp ≤ (r.toNat : Int) → axisAdj c r = c.posClamp) ∧
    (∀ r : Raw, (condOut c r).atrest = true ↔
      ((c.center : Int) - c.deadzone ≤ r.toNat ∨ -c.negClamp ≤ c.deadzone) ∧
      ((r.toNat : Int) ≤ c.center + c.deadzone ∨ c.posClamp ≤ c.deadzone))

/-- R10 (which the spec derives): a clamp beyond the bound acts exactly as the bound, on every
output. -/
def Obligations.SaturatingTheClampsLosesNothing : Prop :=
  ∀ (c : AxisConfig) (raw : Raw), c.center ≤ 4095 → c.negClamp ≤ 0 → 0 ≤ c.posClamp →
    condOut c raw =
      condOut { c with negClamp := max c.negClamp (-4095), posClamp := min c.posClamp 4095 } raw

/-- R66 (which the spec derives): a sample held constant over a run gives constant outputs, whatever
the buttons, strobes and the other axis do meanwhile. -/
def Obligations.ConstantSampleGivesConstantOutputs : Prop :=
  ∀ (s t : State) (a : AxisIx) (k : Nat),
    (∀ j, j ≤ k → (s.inputAt j).raw a = s.inp.raw a) → runFor k s = .next t →
      t.axisOut a = s.axisOut a

/-! ## The operations of a button channel -/

/-- R67: when `RESET` is selected, what it writes, and that a button held pressed then fires again.
-/
def Obligations.ResetPutsAChannelIntoItsResetState : Prop :=
  (∀ (s : State) (b : BtnIx), decode (.deb b (s.sel b)) = .reset b ↔ s.inp.rst = true) ∧
  (∀ (s : State) (b : BtnIx), s.cfg.wf = true →
    ∃ t, exec (.reset b) s = .next t ∧ t.deb b = ⟨.released, false, 0⟩ ∧
      s.SameSurroundings t ∧ (∀ b', b' ≠ b → t.deb b' = s.deb b') ∧
      (t.deb b).busy = false ∧ t.event b = false ∧
      exec (.reset b) t = .next t ∧ (t.deb b).fires .pressed = true)

/-- R68; the last two clauses: away from a poll `prev` stays, and the level makes no difference to the
channel. -/
def Obligations.PollSamplesTheLevelAndDetectsThePress : Prop :=
  (∀ (s : State) (b : BtnIx) (l : Level), decode (.deb b (s.sel b)) = .poll b l ↔
    s.inp.rst = false ∧ (s.deb b).pend = false ∧ s.poll = true ∧ s.inp.btn b = l) ∧
  (∀ (s : State) (b : BtnIx) (l : Level), s.cfg.wf = true →
    ∃ t, exec (.poll b l) s = .next t ∧
      (t.deb b).prev = l ∧
      ((t.deb b).pend = true ↔ l = .pressed ∧ (s.deb b).prev = .released) ∧
      ((t.deb b).cnt =
        if l = .pressed ∧ (s.deb b).prev = .released then s.cfg.settleCycles else 0) ∧
      s.SameSurroundings t ∧ (∀ b', b' ≠ b → t.deb b' = s.deb b') ∧
      (l = .pressed ∧ (s.deb b).prev = .released → t.busy = true) ∧
      (t.event b = true ↔
        (l = .pressed ∧ (s.deb b).prev = .released) ∧ s.cfg.settleCycles = 0) ∧
      (l = .pressed → (s.deb b).prev = .released → s.cfg.settleCycles = 0 →
        ∀ i : Inputs, i.rst = false →
          decode (.deb b (State.sel { t with inp := i } b)) = .deliver b)) ∧
  (∀ (s : State) (b : BtnIx), s.cfg.wf = true → s.inp.rst = false →
    (∀ l, decode (.deb b (s.sel b)) ≠ .poll b l) →
    ∃ t, exec (decode (.deb b (s.sel b))) s = .next t ∧ (t.deb b).prev = (s.deb b).prev) ∧
  (∀ (s : State) (b : BtnIx) (l : Level), s.cfg.wf = true →
    (∀ l', decode (.deb b (s.sel b)) ≠ .poll b l') →
    ∃ t u, exec (decode (.deb b (s.sel b))) s = .next t ∧
      exec (decode (.deb b (State.sel { s with inp := s.inp.setBtn b l } b)))
        { s with inp := s.inp.setBtn b l } = .next u ∧ u.deb b = t.deb b)

/-- R69, for the counts at which it is selected (for a count of 0 see
`CountBelowZeroIsAFreeCount`). -/
def Obligations.CountLowersTheCountByOne : Prop :=
  (∀ (s : State) (b : BtnIx), decode (.deb b (s.sel b)) = .count b ↔
    s.inp.rst = false ∧ (s.deb b).pend = true ∧ (s.deb b).cnt ≠ 0) ∧
  (∀ (s : State) (b : BtnIx), s.cfg.wf = true → (s.deb b).cnt ≠ 0 →
    ∃ t, exec (.count b) s = .next t ∧ (t.deb b).cnt + 1 = (s.deb b).cnt ∧
      (t.deb b).prev = (s.deb b).prev ∧ (t.deb b).pend = (s.deb b).pend ∧
      s.SameSurroundings t ∧ (∀ b', b' ≠ b → t.deb b' = s.deb b')) ∧
  (∀ (s : State) (b : BtnIx), (s.deb b).pend = true → (s.deb b).cnt ≠ 0 →
    s.busy = true ∧ s.event b = false)

/-- The model's choice (log entry 4), where R69 gives no value: `COUNT` on a count of 0, which no
select word selects, completes with the two other elements kept and some count of `SETTLE_W` bits.
-/
def Obligations.CountBelowZeroIsAFreeCount : Prop :=
  ∀ (s : State) (b : BtnIx), s.cfg.wf = true → (s.deb b).cnt = 0 →
    ∃ t, exec (.count b) s = .next t ∧ (t.deb b).cnt < 2 ^ s.cfg.settleW ∧
      (t.deb b).prev = (s.deb b).prev ∧ (t.deb b).pend = (s.deb b).pend ∧
      s.SameSurroundings t ∧ (∀ b', b' ≠ b → t.deb b' = s.deb b')

/-- The clauses of R70 about the operation itself: when it is selected, what it writes, and the
flags in its cycle and in the next. -/
def Obligations.DeliverEndsTheDelayAndSignalsTheEvent : Prop :=
  (∀ (s : State) (b : BtnIx), decode (.deb b (s.sel b)) = .deliver b ↔
    s.inp.rst = false ∧ (s.deb b).pend = true ∧ (s.deb b).cnt = 0) ∧
  (∀ (s : State) (b : BtnIx), s.cfg.wf = true →
    ∃ t, exec (.deliver b) s = .next t ∧ (t.deb b).pend = false ∧
      (t.deb b).prev = (s.deb b).prev ∧ (t.deb b).cnt = (s.deb b).cnt ∧
      s.SameSurroundings t ∧ (∀ b', b' ≠ b → t.deb b' = s.deb b') ∧
      t.event b = false ∧ (t.deb b).busy = false) ∧
  (∀ (s : State) (b : BtnIx), (s.deb b).pend = true → (s.deb b).cnt = 0 →
    s.event b = true ∧ s.busy = true)

/-- R71: `HOLD` writes nothing; in the ICB it also covers a tick that arrives while the other
channel settles. -/
def Obligations.HoldWritesNothing : Prop :=
  (∀ (s : State) (b : BtnIx), decode (.deb b (s.sel b)) = .hold b ↔
    s.inp.rst = false ∧ (s.deb b).pend = false ∧ s.poll = false) ∧
  (∀ (s : State) (b : BtnIx), s.cfg.wf = true → exec (.hold b) s = .next s) ∧
  (∀ (s : State) (b b' : BtnIx), s.target = .icb → s.inp.rst = false →
    (s.deb b).pend = false → (s.deb b').pend = true → decode (.deb b (s.sel b)) = .hold b)

/-- R72: the outputs of a channel depend on its state alone; in the cycle in which `rst` is sampled
they show the old state, in the next the reset state. -/
def Obligations.ChannelOutputsAreFunctionsOfTheState : Prop :=
  (∀ (s : State) (b : BtnIx),
    (s.deb b).busy = (s.deb b).pend ∧
    (s.event b = true ↔ (s.deb b).pend = true ∧ (s.deb b).cnt = 0) ∧
    ∀ i : Inputs, State.event { s with inp := i } b = s.event b ∧
      State.busy { s with inp := i } = s.busy) ∧
  (∀ (s : State) (b : BtnIx), s.cfg.wf = true → s.target = .icb ∨ s.target = .deb b →
    s.inp.rst = true → ∃ t, step s = .next t ∧ (t.deb b).busy = false ∧ t.event b = false)

/-- R73 (which the spec derives): the operation that a channel's select word selects is `deb_step`,
from every state, also those that no run reaches. -/
def Obligations.SelectedChannelOperationIsDebStep : Prop :=
  ∀ (s : State) (b : BtnIx), s.cfg.wf = true →
    exec (decode (.deb b (s.sel b))) s =
      .next (s.setDeb b (debStep s.cfg.settleCycles (s.deb b) s.inp.rst s.poll (s.inp.btn b)))

/-- R97: the priority of a channel's operations; a reset beats a delivery, whose event still shows;
a running delay beats a poll; between the two channels there is no priority: both act in every
clock, and two events may be delivered in one; and between the axis path and the button path there is
nothing to order. -/
def Obligations.ResetBeatsSettlingBeatsPollBeatsHold : Prop :=
  ∀ (s : State) (b : BtnIx),
    (s.inp.rst = true → decode (.deb b (s.sel b)) = .reset b) ∧
    (s.inp.rst = false → (s.deb b).pend = true →
      decode (.deb b (s.sel b)) = if (s.deb b).cnt = 0 then .deliver b else .count b) ∧
    (s.inp.rst = false → (s.deb b).pend = false → s.poll = true →
      decode (.deb b (s.sel b)) = .poll b (s.inp.btn b)) ∧
    (s.inp.rst = false → (s.deb b).pend = false → s.poll = false →
      decode (.deb b (s.sel b)) = .hold b) ∧
    (s.inp.rst = true → (s.deb b).pend = true → (s.deb b).cnt = 0 → s.event b = true) ∧
    (s.cfg.wf = true → s.target = .icb → s.inp.rst = false →
      (∀ b', (s.deb b').pend = true ∧ (s.deb b').cnt = 0) →
      (∀ b', s.event b' = true) ∧ ∃ t, step s = .next t ∧ ∀ b', (t.deb b').pend = false) ∧
    (s.cfg.wf = true → s.target = .icb → ∃ t, step s = .next t ∧
      ∀ b', t.deb b' = debStep s.cfg.settleCycles (s.deb b') s.inp.rst
        (s.inp.tick && !s.busy) (s.inp.btn b')) ∧
    (s.cfg.wf = true → ∀ (a : AxisIx) (raw : Raw) (i : Instr), (∀ raw', i ≠ .cond a raw') →
      execAll [.cond a raw, i] s = execAll [i, .cond a raw] s)

/-- A DEB used alone steps by `deb_step` with its own strobe, the other channel staying as it is; a
poll during its delay is dropped (R54, R69, R70; the part driven is log entry 3). -/
def Obligations.LoneChannelStepsByDebStepAndDropsPolls : Prop :=
  ∀ (s : State) (b : BtnIx), s.cfg.wf = true → s.target = .deb b →
    (∃ t, step s = .next t ∧
      t.deb b = debStep s.cfg.settleCycles (s.deb b) s.inp.rst s.inp.tick (s.inp.btn b) ∧
      ∀ b', b' ≠ b → t.deb b' = s.deb b') ∧
    ((s.deb b).pend = true → ∀ (poll : Bool) (l : Level),
      ∃ t u, step s = .next t ∧
        step { s with inp := { s.inp.setBtn b l with rst := s.inp.rst, tick := poll } } = .next u ∧
        u.deb b = t.deb b)

/-! ## The operations of the block -/

/-- R82: `busy` is the OR of the two pending bits, on the port too. -/
def Obligations.BusyIsTheOrOfThePendingBits : Prop :=
  ∀ s : State, s.busy = (s.deb0.pend || s.deb1.pend) ∧
    ∀ o, s.outputs = some o → o.busy = (s.deb0.pend || s.deb1.pend)

/-- R83: both channels are polled at the same edge, or neither is; a tick while `busy` polls none
and leaves no trace, so that no poll follows it. -/
def Obligations.TicksPollBothChannelsOrNone : Prop :=
  ∀ s : State, s.cfg.wf = true → s.target = .icb → s.inp.rst = false →
    (s.inp.tick = true → s.busy = false → ∃ t, step s = .next t ∧
      ∀ b, t.deb b = (s.deb b).pollOp s.cfg.settleCycles (s.inp.btn b)) ∧
    (s.inp.tick = false ∨ s.busy = true → ∃ t, step s = .next t ∧
      ∀ b, (t.deb b).prev = (s.deb b).prev ∧ ((s.deb b).pend = false → t.deb b = s.deb b)) ∧
    (s.busy = true → ∀ v : Bool, step { s with inp := { s.inp with tick := v } } = step s)

/-- R84 (which the spec derives): the step of the block, and its outputs; `raw` is no argument of
the step. -/
def Obligations.StepOfTheBlockIsBlockStep : Prop :=
  ∀ s : State, s.cfg.wf = true → s.target = .icb →
    (∃ t, step s = .next t ∧
      t.deb0 = debStep s.cfg.settleCycles s.deb0 s.inp.rst
        (s.inp.tick && !(s.deb0.pend || s.deb1.pend)) s.inp.btn0 ∧
      t.deb1 = debStep s.cfg.settleCycles s.deb1 s.inp.rst
        (s.inp.tick && !(s.deb0.pend || s.deb1.pend)) s.inp.btn1 ∧
      (t.deb0, t.deb1) = blockStep s.cfg.settleCycles s.deb0 s.deb1 s.inp ∧
      t.cfg = s.cfg ∧ t.target = s.target ∧ t.cycle = s.cycle + 1 ∧
      ∀ k, t.inputAt k = s.inputAt (k + 1)) ∧
    s.outputs = some
      { axis0 := condOut s.cfg.axis0 s.inp.raw0, axis1 := condOut s.cfg.axis1 s.inp.raw1
        event0 := s.deb0.pend && decide (s.deb0.cnt = 0)
        event1 := s.deb1.pend && decide (s.deb1.cnt = 0)
        busy := s.deb0.pend || s.deb1.pend }

/-- The block-level operation is what the two channels do together, and adds nothing (R51); they may
be done in either order (R38). -/
def Obligations.BlockOperationIsTheTwoChannelOperations : Prop :=
  ∀ s : State, s.cfg.wf = true → s.target = .icb →
    exec (decode (.top s.tsel)) s =
      execAll [decode (.deb .b0 (s.sel .b0)), decode (.deb .b1 (s.sel .b1))] s ∧
    exec (decode (.top s.tsel)) s =
      execAll [decode (.deb .b1 (s.sel .b1)), decode (.deb .b0 (s.sel .b0))] s

/-- R85: when `T.RESET` is selected, the state it leaves, and the flags of the next cycle. -/
def Obligations.BlockResetResetsBothChannels : Prop :=
  (∀ s : State, decode (.top s.tsel) = .tReset ↔ s.inp.rst = true) ∧
  (∀ s : State, s.cfg.wf = true →
    ∃ t, exec .tReset s = .next t ∧ (∀ b, t.deb b = ⟨.released, false, 0⟩) ∧
      s.SameSurroundings t ∧ t.busy = false ∧ (∀ b, t.event b = false) ∧
      ∀ a, t.axisOut a = s.axisOut a)

/-- R86: when `T.STALL` is selected, what each channel does in it, and the flags of its cycle. -/
def Obligations.BlockStallCountsOrDelivers : Prop :=
  (∀ s : State, decode (.top s.tsel) = .tStall ↔ s.inp.rst = false ∧ s.busy = true) ∧
  (∀ s : State, s.cfg.wf = true →
    ∃ t, exec .tStall s = .next t ∧
      (∀ b, (t.deb b).prev = (s.deb b).prev ∧
        ((s.deb b).pend = false → t.deb b = s.deb b) ∧
        ((s.deb b).pend = true → (s.deb b).cnt ≠ 0 →
          (t.deb b).pend = true ∧ (t.deb b).cnt + 1 = (s.deb b).cnt) ∧
        ((s.deb b).pend = true → (s.deb b).cnt = 0 →
          (t.deb b).pend = false ∧ (t.deb b).cnt = 0)) ∧
      s.SameSurroundings t) ∧
  (∀ (s : State) (b : BtnIx), (s.deb b).pend = true →
    s.busy = true ∧ (s.event b = true ↔ (s.deb b).cnt = 0))

/-- The clauses of R87 about the operation itself: when it is selected, what each channel's poll
writes, when `busy` follows, that two channels firing together start the same delay, and that a
second poll of the same levels changes nothing: at once where the first did not fire, and, where it
did, once the channels are idle again. -/
def Obligations.BlockSamplePollsBothChannels : Prop :=
  (∀ s : State, decode (.top s.tsel) = .tSample ↔
    s.inp.rst = false ∧ s.busy = false ∧ s.inp.tick = true) ∧
  (∀ s : State, s.cfg.wf = true →
    ∃ t, exec .tSample s = .next t ∧
      (∀ b, (t.deb b).prev = s.inp.btn b ∧
        ((t.deb b).pend = true ↔ s.inp.btn b = .pressed ∧ (s.deb b).prev = .released) ∧
        ((t.deb b).cnt =
          if s.inp.btn b = .pressed ∧ (s.deb b).prev = .released then s.cfg.settleCycles else 0)) ∧
      s.SameSurroundings t ∧
      (t.busy = true ↔ ∃ b, s.inp.btn b = .pressed ∧ (s.deb b).prev = .released) ∧
      ((∀ b, s.inp.btn b = .pressed ∧ (s.deb b).prev = .released) → t.deb0 = t.deb1) ∧
      (t.busy = false → exec .tSample t = .next t)) ∧
  (∀ s : State, s.cfg.wf = true → (∀ b, s.deb b = ⟨s.inp.btn b, false, 0⟩) →
    s.busy = false ∧ exec .tSample s = .next s)

/-- R88: when `T.IDLE` is selected, and that it changes nothing. -/
def Obligations.BlockIdleKeepsTheState : Prop :=
  (∀ s : State, decode (.top s.tsel) = .tIdle ↔
    s.inp.rst = false ∧ s.busy = false ∧ s.inp.tick = false) ∧
  (∀ s : State, s.cfg.wf = true → exec .tIdle s = .next s)

/-- R107, of the block: one edge with `rst = 1` puts both channels into the reset state, whatever
the state and the other inputs; the axis outputs go on following the samples. -/
def Obligations.SampledResetPutsTheBlockIntoItsResetState : Prop :=
  ∀ s : State, s.cfg.wf = true → s.target = .icb → s.inp.rst = true →
    ∃ t, step s = .next t ∧ (∀ b, t.deb b = ⟨.released, false, 0⟩) ∧ t.busy = false ∧
      ∀ a, t.axisOut a = condOut (s.cfg.axis a) ((s.inputAt 1).raw a)

/-- R108 (which the spec derives): a reset during a delay abandons it, its event is not delivered,
and a button still held at the next tick fires again. -/
def Obligations.ResetAbandonsADelayAndAHeldButtonFiresAgain : Prop :=
  ∀ (s : State) (b : BtnIx), s.cfg.wf = true → s.target = .icb → s.inp.rst = true →
    (s.deb b).pend = true → (s.inputAt 1).rst = false → (s.inputAt 1).tick = true →
    (s.inputAt 1).btn b = .pressed →
    ∃ t u, step s = .next t ∧ t.event b = false ∧ t.deb b = ⟨.released, false, 0⟩ ∧
      step t = .next u ∧ u.deb b = ⟨.pressed, true, s.cfg.settleCycles⟩

/-- `btn[b]` is read at the edges at which the channels poll and at no other (R89, which the spec
derives): away from an accepted tick, the levels make no difference to either channel. -/
def Obligations.LevelsAreReadOnlyAtAcceptedTicks : Prop :=
  ∀ (s : State) (l0 l1 : Level), s.cfg.wf = true → s.target = .icb → s.accepted = false →
    ∃ t u, step s = .next t ∧
      step { s with inp := { s.inp with btn0 := l0, btn1 := l1 } } = .next u ∧
      ∀ b, u.deb b = t.deb b

/-! ## Laws over steps and runs -/

/-- R74 (which the spec derives), one step: the only transitions of a channel's phase in the ICB. -/
def Obligations.PhaseChangesOnlyByFiringDeliveringOrReset : Prop :=
  ∀ (s t : State) (b : BtnIx), s.target = .icb → step s = .next t →
    ((s.deb b).pend = false → (t.deb b).pend = true →
      s.accepted = true ∧ s.inp.btn b = .pressed ∧ (s.deb b).prev = .released) ∧
    ((s.deb b).pend = true → (t.deb b).pend = false →
      s.inp.rst = true ∨ s.event b = true)

/-- R112 (which the spec derives), and the same of a channel used alone: an event lasts one clock
cycle. -/
def Obligations.EventLastsOneClockCycle : Prop :=
  ∀ (s : State) (b : BtnIx), s.cfg.wf = true → s.target = .icb ∨ s.target = .deb b →
    s.event b = true → ∃ t, step s = .next t ∧ t.event b = false ∧ (t.deb b).pend = false

/-- The counters keep their width (R18, R47): every operation and every step leaves counts that fit
`SETTLE_W` bits, from every state whose counts do. -/
def Obligations.CountsKeepTheirWidth : Prop :=
  ∀ s t : State, s.CountsFit →
    (∀ i : Instr, exec i s = .next t → t.CountsFit) ∧ (step s = .next t → t.CountsFit)

/-- R75 (which the spec derives): the timing of one event, clock by clock, from any state in which a
poll fires, whatever the inputs do meanwhile, short of a reset. -/
def Obligations.EventFollowsAFiringPollByTheSettleDelay : Prop :=
  ∀ (s : State) (b : BtnIx), s.cfg.wf = true → s.target = .icb → s.accepted = true →
    s.inp.btn b = .pressed → (s.deb b).prev = .released →
    (∀ j, j ≤ s.cfg.settleCycles → (s.inputAt (1 + j)).rst = false) →
    (∀ j, j ≤ s.cfg.settleCycles → ∃ t, runFor (1 + j) s = .next t ∧
      (t.deb b).busy = true ∧ (t.deb b).cnt = s.cfg.settleCycles - j ∧
      (t.event b = true ↔ j = s.cfg.settleCycles)) ∧
    (∃ t, runFor (2 + s.cfg.settleCycles) s = .next t ∧
      (t.deb b).pend = false ∧ t.event b = false ∧ t.busy = false)

/-- R91 (which the spec derives): settling channels are in step in every state reached from reset,
and `busy` stays high for exactly `SETTLE_CYCLES + 1` clocks after an accepted tick that fired a
channel. -/
def Obligations.BusyLastsSettleCyclesPlusOneClocks : Prop :=
  (∀ (c : Config) (i : Inputs) (q : List Inputs) (k : Nat) (t : State), c.wf = true →
    runFor k { State.resetWith c with inp := i, queue := q } = .next t →
      t.deb0.pend = true → t.deb1.pend = true → t.deb0.cnt = t.deb1.cnt) ∧
  (∀ s : State, s.cfg.wf = true → s.target = .icb → s.accepted = true →
    (∃ b, s.inp.btn b = .pressed ∧ (s.deb b).prev = .released) →
    (∀ j, j ≤ s.cfg.settleCycles → (s.inputAt (1 + j)).rst = false) →
    (∀ j, j ≤ s.cfg.settleCycles → ∃ t, runFor (1 + j) s = .next t ∧ t.busy = true) ∧
    (∃ t, runFor (2 + s.cfg.settleCycles) s = .next t ∧ t.busy = false))

/-- R76 (which the spec derives): over any run without reset, the events delivered and the one still
settling at the end make up the sampled released-to-pressed transitions and the one settling at the
start. -/
def Obligations.OneEventPerSampledPress : Prop :=
  ∀ (s t : State) (b : BtnIx) (k : Nat), s.target = .icb →
    (∀ j, j < k → (s.inputAt j).rst = false) → runFor k s = .next t →
      eventPulses b k s + (if (t.deb b).pend = true then 1 else 0) =
        pressEdges (s.deb b).prev (sampledLevels b k s) + (if (s.deb b).pend = true then 1 else 0)

/-- R77 (which the spec derives): a button that stays pressed after its poll fired gives no further
event, only a poll that samples it released re-arms the channel, and a button that stays released
gives none. -/
def Obligations.HeldButtonDoesNotFireAgain : Prop :=
  (∀ (s t : State) (b : BtnIx) (k : Nat), s.target = .icb →
    (∀ j, j < k → (s.inputAt j).rst = false ∧ (s.inputAt j).btn b = .pressed) →
    (s.deb b).prev = .pressed → runFor k s = .next t →
      (t.deb b).prev = .pressed ∧
      eventPulses b k s + (if (t.deb b).pend = true then 1 else 0) =
        (if (s.deb b).pend = true then 1 else 0)) ∧
  (∀ (s t : State) (b : BtnIx), s.target = .icb → s.inp.rst = false → step s = .next t →
    (s.deb b).prev = .pressed → (t.deb b).prev = .released →
      s.accepted = true ∧ s.inp.btn b = .released) ∧
  (∀ (s t : State) (b : BtnIx) (k : Nat), s.target = .icb →
    (∀ j, j < k → (s.inputAt j).rst = false ∧ (s.inputAt j).btn b = .released) →
    (s.deb b).pend = false → runFor k s = .next t →
      eventPulses b k s = 0 ∧ (t.deb b).pend = false)

/-- What a channel cannot see (R78, which the spec derives): two runs whose strobes agree, and whose
levels agree at the accepted ticks, leave the channels in the same state, whatever the levels do
between those ticks. -/
def Obligations.LevelsBetweenAcceptedTicksLeaveNoTrace : Prop :=
  ∀ (s s' t t' : State) (k : Nat), s.target = .icb → s'.target = .icb →
    s'.cfg.settleCycles = s.cfg.settleCycles → (∀ b, s'.deb b = s.deb b) →
    (∀ j, j < k → (s'.inputAt j).rst = (s.inputAt j).rst ∧ (s'.inputAt j).tick = (s.inputAt j).tick) →
    (∀ j u, j < k → runFor j s = .next u → u.accepted = true →
      ∀ b, (s'.inputAt j).btn b = (s.inputAt j).btn b) →
    runFor k s = .next t → runFor k s' = .next t' →
      ∀ b, t'.deb b = t.deb b

/-- R90 (which the spec derives): after any run the axis outputs are those of the sample then on the
port, whatever `rst`, `tick` and the buttons did; and two runs that differ only in the samples and
the axis constants leave the same button state, `busy` and events. -/
def Obligations.AxisPathAndButtonPathAreIndependent : Prop :=
  (∀ (s t : State) (a : AxisIx) (k : Nat), runFor k s = .next t →
    t.axisOut a = condOut (s.cfg.axis a) ((s.inputAt k).raw a)) ∧
  (∀ (s s' t t' : State) (k : Nat), s.target = .icb → s'.target = .icb →
    s'.cfg.settleCycles = s.cfg.settleCycles → (∀ b, s'.deb b = s.deb b) →
    (∀ j, j < k → (s'.inputAt j).word = (s.inputAt j).word) →
    runFor k s = .next t → runFor k s' = .next t' →
      (∀ b, t'.deb b = t.deb b ∧ t'.event b = t.event b) ∧ t'.busy = t.busy)

/-- R92 (which the spec derives): with constant levels and no reset, any pattern of ticks gives at
most one event per button, from every state that meets the invariant; and once both channels are
idle with the held levels sampled (which an accepted tick and its delay bring about), the state of
the channels is constant. -/
def Obligations.ConstantLevelsGiveAtMostOneEvent : Prop :=
  ∀ s : State, s.Inv → s.target = .icb →
    (∀ k, (∀ j, j < k → (s.inputAt j).rst = false ∧ ∀ b, (s.inputAt j).btn b = s.inp.btn b) →
      (∀ b, eventPulses b k s ≤ 1 ∧
        (eventPulses b k s = 1 →
          (s.deb b).pend = true ∨ (s.inp.btn b = .pressed ∧ (s.deb b).prev = .released))) ∧
      ((∀ b, (s.deb b).pend = false ∧ (s.deb b).prev = s.inp.btn b) →
        ∃ t, runFor k s = .next t ∧ ∀ b, t.deb b = s.deb b ∧ eventPulses b k s = 0)) ∧
    ((∀ j, j ≤ 1 + s.cfg.settleCycles →
        (s.inputAt j).rst = false ∧ ∀ b, (s.inputAt j).btn b = s.inp.btn b) →
      s.accepted = true →
      ∃ t, runFor (2 + s.cfg.settleCycles) s = .next t ∧
        ∀ b, (t.deb b).pend = false ∧ (t.deb b).prev = s.inp.btn b)

/-- The statements of a script that drive the block (R56): running them reaches the channel states
that the machine reaches when the script's inputs, one per `step` statement, are on the ports and
queued. -/
def Obligations.ScriptRunsAsItsQueuedInputs : Prop :=
  ∀ (stmts : List Stmt) (s u : State) (i : Inputs) (rest : List Inputs),
    s.target = .icb → runStmts stmts s = .ok u → stmtInputs stmts s.inp = i :: rest →
      ∃ v, runFor (1 + rest.length) { s with inp := i, queue := rest } = .next v ∧
        (∀ b, v.deb b = u.deb b) ∧ v.cycle = u.cycle
end

