-- ==== Sys2Proof/Laws/State.lean ====
section
/-! SUPPORT. The small lemmas of the state: one for each field and each update, true by rfl. -/

namespace Sys2Proof.Machine

/-! ## Ports -/

@[simp] theorem Inputs.btn_b0 (i : Inputs) : i.btn .b0 = i.btn0 := rfl
@[simp] theorem Inputs.btn_b1 (i : Inputs) : i.btn .b1 = i.btn1 := rfl
@[simp] theorem Inputs.raw_a0 (i : Inputs) : i.raw .a0 = i.raw0 := rfl
@[simp] theorem Inputs.raw_a1 (i : Inputs) : i.raw .a1 = i.raw1 := rfl

@[simp] theorem Inputs.setRaw_raw_same (i : Inputs) (a : AxisIx) (v : Raw) :
    (i.setRaw a v).raw a = v := by cases a <;> rfl
theorem Inputs.setRaw_raw_other (i : Inputs) (a a' : AxisIx) (v : Raw) (h : a' ≠ a) :
    (i.setRaw a v).raw a' = i.raw a' := by cases a <;> cases a' <;> first | rfl | exact absurd rfl h
@[simp] theorem Inputs.setRaw_rst (i : Inputs) (a : AxisIx) (v : Raw) :
    (i.setRaw a v).rst = i.rst := by cases a <;> rfl
@[simp] theorem Inputs.setRaw_tick (i : Inputs) (a : AxisIx) (v : Raw) :
    (i.setRaw a v).tick = i.tick := by cases a <;> rfl
@[simp] theorem Inputs.setRaw_btn (i : Inputs) (a : AxisIx) (v : Raw) (b : BtnIx) :
    (i.setRaw a v).btn b = i.btn b := by cases a <;> cases b <;> rfl
@[simp] theorem Inputs.setRaw_self (i : Inputs) (a : AxisIx) : i.setRaw a (i.raw a) = i := by
  cases a <;> rfl

@[simp] theorem Inputs.setBtn_btn_same (i : Inputs) (b : BtnIx) (v : Level) :
    (i.setBtn b v).btn b = v := by cases b <;> rfl
theorem Inputs.setBtn_btn_other (i : Inputs) (b b' : BtnIx) (v : Level) (h : b' ≠ b) :
    (i.setBtn b v).btn b' = i.btn b' := by cases b <;> cases b' <;> first | rfl | exact absurd rfl h
@[simp] theorem Inputs.setBtn_raw (i : Inputs) (b : BtnIx) (v : Level) (a : AxisIx) :
    (i.setBtn b v).raw a = i.raw a := by cases a <;> cases b <;> rfl

@[simp] theorem Inputs.setRaw_btn0 (i : Inputs) (a : AxisIx) (v : Raw) :
    (i.setRaw a v).btn0 = i.btn0 := by cases a <;> rfl
@[simp] theorem Inputs.setRaw_btn1 (i : Inputs) (a : AxisIx) (v : Raw) :
    (i.setRaw a v).btn1 = i.btn1 := by cases a <;> rfl
@[simp] theorem Inputs.setRaw_a0_raw0 (i : Inputs) (v : Raw) : (i.setRaw .a0 v).raw0 = v := rfl
@[simp] theorem Inputs.setRaw_a0_raw1 (i : Inputs) (v : Raw) : (i.setRaw .a0 v).raw1 = i.raw1 := rfl
@[simp] theorem Inputs.setRaw_a1_raw0 (i : Inputs) (v : Raw) : (i.setRaw .a1 v).raw0 = i.raw0 := rfl
@[simp] theorem Inputs.setRaw_a1_raw1 (i : Inputs) (v : Raw) : (i.setRaw .a1 v).raw1 = v := rfl
@[simp] theorem Inputs.setBtn_b0_btn0 (i : Inputs) (v : Level) : (i.setBtn .b0 v).btn0 = v := rfl
@[simp] theorem Inputs.setBtn_b0_btn1 (i : Inputs) (v : Level) : (i.setBtn .b0 v).btn1 = i.btn1 :=
  rfl
@[simp] theorem Inputs.setBtn_b1_btn0 (i : Inputs) (v : Level) : (i.setBtn .b1 v).btn0 = i.btn0 :=
  rfl
@[simp] theorem Inputs.setBtn_b1_btn1 (i : Inputs) (v : Level) : (i.setBtn .b1 v).btn1 = v := rfl
@[simp] theorem Inputs.setBtn_rst (i : Inputs) (b : BtnIx) (v : Level) :
    (i.setBtn b v).rst = i.rst := by cases b <;> rfl
@[simp] theorem Inputs.setBtn_tick (i : Inputs) (b : BtnIx) (v : Level) :
    (i.setBtn b v).tick = i.tick := by cases b <;> rfl

/-! ## Button channels -/

@[simp] theorem State.deb_b0 (s : State) : s.deb .b0 = s.deb0 := rfl
@[simp] theorem State.deb_b1 (s : State) : s.deb .b1 = s.deb1 := rfl

@[simp] theorem State.setDeb_deb_same (s : State) (b : BtnIx) (d : Deb) :
    (s.setDeb b d).deb b = d := by cases b <;> rfl
theorem State.setDeb_deb_other (s : State) (b b' : BtnIx) (d : Deb) (h : b' ≠ b) :
    (s.setDeb b d).deb b' = s.deb b' := by cases b <;> cases b' <;> first | rfl | exact absurd rfl h
@[simp] theorem State.setDeb_cfg (s : State) (b : BtnIx) (d : Deb) : (s.setDeb b d).cfg = s.cfg := by
  cases b <;> rfl
@[simp] theorem State.setDeb_target (s : State) (b : BtnIx) (d : Deb) :
    (s.setDeb b d).target = s.target := by cases b <;> rfl
@[simp] theorem State.setDeb_inp (s : State) (b : BtnIx) (d : Deb) : (s.setDeb b d).inp = s.inp := by
  cases b <;> rfl
@[simp] theorem State.setDeb_queue (s : State) (b : BtnIx) (d : Deb) :
    (s.setDeb b d).queue = s.queue := by cases b <;> rfl
@[simp] theorem State.setDeb_cycle (s : State) (b : BtnIx) (d : Deb) :
    (s.setDeb b d).cycle = s.cycle := by cases b <;> rfl
@[simp] theorem State.setDeb_self (s : State) (b : BtnIx) : s.setDeb b (s.deb b) = s := by
  cases b <;> rfl

@[simp] theorem State.setDeb_b0_deb0 (s : State) (d : Deb) : (s.setDeb .b0 d).deb0 = d := rfl
@[simp] theorem State.setDeb_b0_deb1 (s : State) (d : Deb) : (s.setDeb .b0 d).deb1 = s.deb1 := rfl
@[simp] theorem State.setDeb_b1_deb0 (s : State) (d : Deb) : (s.setDeb .b1 d).deb0 = s.deb0 := rfl
@[simp] theorem State.setDeb_b1_deb1 (s : State) (d : Deb) : (s.setDeb .b1 d).deb1 = d := rfl

@[simp] theorem State.setDebs_deb0 (s : State) (d0 d1 : Deb) : (s.setDebs d0 d1).deb0 = d0 := rfl
@[simp] theorem State.setDebs_deb1 (s : State) (d0 d1 : Deb) : (s.setDebs d0 d1).deb1 = d1 := rfl
@[simp] theorem State.setDebs_cfg (s : State) (d0 d1 : Deb) : (s.setDebs d0 d1).cfg = s.cfg := rfl
@[simp] theorem State.setDebs_target (s : State) (d0 d1 : Deb) :
    (s.setDebs d0 d1).target = s.target := rfl
@[simp] theorem State.setDebs_inp (s : State) (d0 d1 : Deb) : (s.setDebs d0 d1).inp = s.inp := rfl
@[simp] theorem State.setDebs_queue (s : State) (d0 d1 : Deb) : (s.setDebs d0 d1).queue = s.queue :=
  rfl
@[simp] theorem State.setDebs_cycle (s : State) (d0 d1 : Deb) : (s.setDebs d0 d1).cycle = s.cycle :=
  rfl
@[simp] theorem State.setDebs_self (s : State) : s.setDebs s.deb0 s.deb1 = s := rfl
theorem State.setDebs_eq_setDeb (s : State) (d0 d1 : Deb) :
    s.setDebs d0 d1 = (s.setDeb .b0 d0).setDeb .b1 d1 := rfl
theorem State.setDeb_comm (s : State) (d0 d1 : Deb) :
    (s.setDeb .b0 d0).setDeb .b1 d1 = (s.setDeb .b1 d1).setDeb .b0 d0 := rfl

/-! ## A raw sample -/

@[simp] theorem State.setRaw_cfg (s : State) (a : AxisIx) (v : Raw) : (s.setRaw a v).cfg = s.cfg := rfl
@[simp] theorem State.setRaw_target (s : State) (a : AxisIx) (v : Raw) :
    (s.setRaw a v).target = s.target := rfl
@[simp] theorem State.setRaw_deb0 (s : State) (a : AxisIx) (v : Raw) :
    (s.setRaw a v).deb0 = s.deb0 := rfl
@[simp] theorem State.setRaw_deb1 (s : State) (a : AxisIx) (v : Raw) :
    (s.setRaw a v).deb1 = s.deb1 := rfl
@[simp] theorem State.setRaw_deb (s : State) (a : AxisIx) (v : Raw) (b : BtnIx) :
    (s.setRaw a v).deb b = s.deb b := by cases b <;> rfl
@[simp] theorem State.setRaw_inp (s : State) (a : AxisIx) (v : Raw) :
    (s.setRaw a v).inp = s.inp.setRaw a v := rfl
@[simp] theorem State.setRaw_queue (s : State) (a : AxisIx) (v : Raw) :
    (s.setRaw a v).queue = s.queue := rfl
@[simp] theorem State.setRaw_cycle (s : State) (a : AxisIx) (v : Raw) :
    (s.setRaw a v).cycle = s.cycle := rfl
@[simp] theorem State.setRaw_self (s : State) (a : AxisIx) : s.setRaw a (s.inp.raw a) = s := by
  cases a <;> rfl

/-! ## The next clock cycle -/

@[simp] theorem State.advance_cfg (s : State) : s.advance.cfg = s.cfg := rfl
@[simp] theorem State.advance_target (s : State) : s.advance.target = s.target := rfl
@[simp] theorem State.advance_deb0 (s : State) : s.advance.deb0 = s.deb0 := rfl
@[simp] theorem State.advance_deb1 (s : State) : s.advance.deb1 = s.deb1 := rfl
@[simp] theorem State.advance_deb (s : State) (b : BtnIx) : s.advance.deb b = s.deb b := by
  cases b <;> rfl
@[simp] theorem State.advance_inp (s : State) : s.advance.inp = s.inputAt 1 := rfl
@[simp] theorem State.advance_queue (s : State) : s.advance.queue = s.queue.tail := rfl
@[simp] theorem State.advance_cycle (s : State) : s.advance.cycle = s.cycle + 1 := rfl
@[simp] theorem State.inputAt_zero (s : State) : s.inputAt 0 = s.inp := rfl

/-- The inputs of a later cycle depend on the queue and the cycle number alone. -/
theorem State.inputAt_succ_congr {s t : State} (hq : t.queue = s.queue) (hc : t.cycle = s.cycle)
    (k : Nat) : t.inputAt (k + 1) = s.inputAt (k + 1) := by
  simp only [State.inputAt, hq, hc]

/-- After a clock cycle the coming inputs are one cycle nearer. -/
theorem State.advance_inputAt (s : State) (k : Nat) : s.advance.inputAt k = s.inputAt (k + 1) := by
  cases k with
  | zero => rfl
  | succ k =>
    cases h : s.queue with
    | nil => simp [State.inputAt, h, Nat.add_comm, Nat.add_left_comm]
    | cons i rest => simp [State.inputAt, h, Nat.add_comm, Nat.add_left_comm]

/-! ## Reset -/

@[simp] theorem State.resetWith_cfg (c : Config) : (State.resetWith c).cfg = c := rfl
@[simp] theorem State.resetWith_deb (c : Config) (b : BtnIx) :
    (State.resetWith c).deb b = ⟨.released, false, 0⟩ := by cases b <;> rfl

end Sys2Proof.Machine
end

