-- ==== Sys2Proof/Laws/Axis.lean ====
section
/-! SUPPORT. The small lemmas of the axis data path: encodings of signed values, and the ranges that a
well-formed configuration gives. -/

namespace Sys2Proof.Machine

/-- The ranges of R9 for one axis channel, as inequalities. -/
theorem axisConfig_ranges {c : AxisConfig} (h : c.wf = true) :
    c.center ≤ 4095 ∧ -4095 ≤ c.negClamp ∧ c.negClamp ≤ 0 ∧ 0 ≤ c.posClamp ∧ c.posClamp ≤ 4095 ∧
      c.deadzone ≤ 4095 := by
  simp only [AxisConfig.wf, Bool.and_eq_true, decide_eq_true_eq] at h
  omega

/-- The parts of a well-formed configuration (R9). -/
theorem config_ranges {c : Config} (h : c.wf = true) :
    c.axis0.wf = true ∧ c.axis1.wf = true ∧ 1 ≤ c.settleW ∧
      c.settleCycles ≤ 2 ^ c.settleW - 1 ∧ 0 < c.fClk := by
  simpa only [Config.wf, Bool.and_eq_true, decide_eq_true_eq, and_assoc] using h

/-- Reading back an encoded value (R12), for every value that 13 bits hold. -/
theorem sval_s13 {x : Int} (hlo : -4096 ≤ x) (hhi : x ≤ 4095) : sval (s13 x) = x := by
  simp only [sval, s13, BitVec.toInt_ofInt]
  rw [Int.bmod_eq_of_le] <;> omega

/-- A value of the data path is known by its reading. -/
theorem adj_ext {v w : Adj} (h : sval v = sval w) : v = w := BitVec.eq_of_toInt_eq h

/-- A signed 13-bit comparison compares the readings (R58). -/
theorem adj_slt_iff (v w : Adj) : v.slt w = true ↔ sval v < sval w := by
  simp only [BitVec.slt, sval, decide_eq_true_eq]

/-- The clamp constants read back as they are (R48). -/
theorem sval_clampOperands {c : AxisConfig} (h : c.wf = true) :
    sval (negClampOperand c) = c.negClamp ∧ sval (posClampOperand c) = c.posClamp := by
  have hr := axisConfig_ranges h
  exact ⟨sval_s13 (by omega) (by omega), sval_s13 (by omega) (by omega)⟩

theorem axisDelta_eq (c : AxisConfig) (raw : Raw) :
    axisDelta c raw = (raw.toNat : Int) - c.center := rfl

theorem axisAdj_eq (c : AxisConfig) (raw : Raw) :
    axisAdj c raw = max c.negClamp (min c.posClamp ((raw.toNat : Int) - c.center)) := rfl

theorem condOut_adj (c : AxisConfig) (raw : Raw) : (condOut c raw).adj = s13 (axisAdj c raw) := rfl
theorem condOut_atrest (c : AxisConfig) (raw : Raw) :
    (condOut c raw).atrest = atRest c (axisAdj c raw) := rfl
theorem condOut_filt (c : AxisConfig) (raw : Raw) : (condOut c raw).filt = s13 (axisFilt c raw) := rfl

end Sys2Proof.Machine
end

