-- ==== Sys2Proof/Laws/Ops.lean ====
section
/-! SUPPORT. One lemma for each shared operation, saying once what it can do: `perform`, the flags and
select vectors, and the operations of a button channel. -/

namespace Sys2Proof.Machine

/-! ## perform -/

theorem perform_of_wf {s : State} (h : s.cfg.wf = true) (t : State) : perform s t = .next t := by
  simp [perform, h]

theorem perform_of_ill_formed {s : State} (h : s.cfg.wf = false) (t : State) :
    perform s t = .refused .illFormedConfig := by
  simp [perform, h]

/-- Where an operation answers a next state, the configuration is well-formed and that state is its
effect. -/
theorem perform_next {s t u : State} (h : perform s t = .next u) : s.cfg.wf = true ∧ u = t := by
  unfold perform at h
  split at h
  · next hw => injection h with h; exact ⟨hw, h.symm⟩
  · cases h

/-! ## The bits of the select vectors (R50, R51) -/

theorem State.sel_rst (s : State) (b : BtnIx) : (s.sel b).getLsbD 4 = s.inp.rst := by
  unfold State.sel
  cases s.inp.rst <;> cases (s.deb b).pend <;> cases decide ((s.deb b).cnt = 0) <;> cases s.poll <;>
    cases (s.inp.btn b).bit <;> rfl

theorem State.sel_pend (s : State) (b : BtnIx) : (s.sel b).getLsbD 3 = (s.deb b).pend := by
  unfold State.sel
  cases s.inp.rst <;> cases (s.deb b).pend <;> cases decide ((s.deb b).cnt = 0) <;> cases s.poll <;>
    cases (s.inp.btn b).bit <;> rfl

theorem State.sel_zero (s : State) (b : BtnIx) :
    (s.sel b).getLsbD 2 = decide ((s.deb b).cnt = 0) := by
  unfold State.sel
  cases s.inp.rst <;> cases (s.deb b).pend <;> cases decide ((s.deb b).cnt = 0) <;> cases s.poll <;>
    cases (s.inp.btn b).bit <;> rfl

theorem State.sel_poll (s : State) (b : BtnIx) : (s.sel b).getLsbD 1 = s.poll := by
  unfold State.sel
  cases s.inp.rst <;> cases (s.deb b).pend <;> cases decide ((s.deb b).cnt = 0) <;> cases s.poll <;>
    cases (s.inp.btn b).bit <;> rfl

theorem State.sel_level (s : State) (b : BtnIx) : (s.sel b).getLsbD 0 = (s.inp.btn b).bit := by
  unfold State.sel
  cases s.inp.rst <;> cases (s.deb b).pend <;> cases decide ((s.deb b).cnt = 0) <;> cases s.poll <;>
    cases (s.inp.btn b).bit <;> rfl

theorem State.tsel_rst (s : State) : s.tsel.getLsbD 2 = s.inp.rst := by
  unfold State.tsel
  cases s.inp.rst <;> cases s.busy <;> cases s.inp.tick <;> rfl

theorem State.tsel_busy (s : State) : s.tsel.getLsbD 1 = s.busy := by
  unfold State.tsel
  cases s.inp.rst <;> cases s.busy <;> cases s.inp.tick <;> rfl

theorem State.tsel_tick (s : State) : s.tsel.getLsbD 0 = s.inp.tick := by
  unfold State.tsel
  cases s.inp.rst <;> cases s.busy <;> cases s.inp.tick <;> rfl

theorem ofBit_bit (l : Level) : Level.ofBit l.bit = l := by cases l <;> rfl

/-! ## Flags -/

theorem State.busy_eq (s : State) : s.busy = (s.deb0.pend || s.deb1.pend) := rfl

theorem State.busy_eq_false {s : State} (h : s.busy = false) (b : BtnIx) : (s.deb b).pend = false := by
  simp only [State.busy_eq, Bool.or_eq_false_iff] at h
  cases b
  · exact h.1
  · exact h.2

theorem Deb.event_iff (d : Deb) : d.event = true ↔ d.pend = true ∧ d.cnt = 0 := by
  simp [Deb.event]

theorem atRest_iff (c : AxisConfig) (v : Int) : atRest c v = true ↔ v.natAbs ≤ c.deadzone := by
  simp [atRest]

theorem Deb.fires_iff (d : Deb) (l : Level) :
    d.fires l = true ↔ l = .pressed ∧ d.prev = .released := by
  simp [Deb.fires]

/-! ## The operations of a button channel -/

@[simp] theorem Deb.resetOp_eq (d : Deb) : d.resetOp = ⟨.released, false, 0⟩ := rfl
@[simp] theorem Deb.holdOp_eq (d : Deb) : d.holdOp = d := rfl
@[simp] theorem Deb.deliverOp_eq (d : Deb) : d.deliverOp = ⟨d.prev, false, d.cnt⟩ := rfl

theorem Deb.countOp_of_ne_zero {d : Deb} (h : d.cnt ≠ 0) (below : Nat) :
    d.countOp below = ⟨d.prev, d.pend, d.cnt - 1⟩ := by
  simp [Deb.countOp, h]

theorem Deb.pollOp_of_fires {d : Deb} {l : Level} (h : d.fires l = true) (n : Nat) :
    d.pollOp n l = ⟨.pressed, true, n⟩ := by
  obtain ⟨rfl, -⟩ := (d.fires_iff l).1 h
  simp [Deb.pollOp, h]

theorem Deb.pollOp_of_not_fires {d : Deb} {l : Level} (h : d.fires l = false) (n : Nat) :
    d.pollOp n l = ⟨l, false, 0⟩ := by
  simp [Deb.pollOp, h]

/-- Everything `stallOp` can do: hold, deliver, or count; a free count is never used. -/
theorem Deb.stallOp_cases (d : Deb) (below : Nat) :
    (d.pend = false ∧ d.stallOp below = d) ∨
    (d.pend = true ∧ d.cnt = 0 ∧ d.stallOp below = ⟨d.prev, false, 0⟩) ∨
    (d.pend = true ∧ d.cnt ≠ 0 ∧ d.stallOp below = ⟨d.prev, true, d.cnt - 1⟩) := by
  obtain ⟨prev, pend, cnt⟩ := d
  cases pend
  · exact .inl ⟨rfl, rfl⟩
  · by_cases h : cnt = 0
    · exact .inr (.inl ⟨rfl, h, by simp [Deb.stallOp, h]⟩)
    · exact .inr (.inr ⟨rfl, h, by simp [Deb.stallOp, Deb.countOp, h]⟩)

/-- Everything `deb_step` (R73) can do: one of the five operations. -/
theorem debStep_cases (n : Nat) (d : Deb) (rst poll : Bool) (l : Level) :
    (rst = true ∧ debStep n d rst poll l = ⟨.released, false, 0⟩) ∨
    (rst = false ∧ d.pend = true ∧ d.cnt ≠ 0 ∧ debStep n d rst poll l = ⟨d.prev, true, d.cnt - 1⟩) ∨
    (rst = false ∧ d.pend = true ∧ d.cnt = 0 ∧ debStep n d rst poll l = ⟨d.prev, false, 0⟩) ∨
    (rst = false ∧ d.pend = false ∧ poll = true ∧ debStep n d rst poll l = d.pollOp n l) ∨
    (rst = false ∧ d.pend = false ∧ poll = false ∧ debStep n d rst poll l = d) := by
  obtain ⟨prev, pend, cnt⟩ := d
  cases rst
  · cases pend
    · cases poll
      · exact .inr (.inr (.inr (.inr ⟨rfl, rfl, rfl, by simp [debStep]⟩)))
      · exact .inr (.inr (.inr (.inl ⟨rfl, rfl, rfl, by simp [debStep, Deb.pollOp]⟩)))
    · by_cases h : cnt = 0
      · exact .inr (.inr (.inl ⟨rfl, rfl, h, by simp [debStep, h]⟩))
      · exact .inr (.inl ⟨rfl, rfl, h, by simp [debStep, h]⟩)
  · exact .inl ⟨rfl, rfl⟩

/-! ## Bringing a select word about -/

theorem State.forceBusy_busy (s : State) (v : Bool) : (s.forceBusy v).busy = v := by
  cases v
  · rfl
  · cases h : s.busy
    · simp [State.forceBusy, h]
      rfl
    · simp [State.forceBusy, h]

@[simp] theorem State.forceBusy_cfg (s : State) (v : Bool) : (s.forceBusy v).cfg = s.cfg := by
  cases v <;> cases h : s.busy <;> simp [State.forceBusy, h]
@[simp] theorem State.forceBusy_queue (s : State) (v : Bool) : (s.forceBusy v).queue = s.queue := by
  cases v <;> cases h : s.busy <;> simp [State.forceBusy, h]
@[simp] theorem State.forceBusy_cycle (s : State) (v : Bool) : (s.forceBusy v).cycle = s.cycle := by
  cases v <;> cases h : s.busy <;> simp [State.forceBusy, h]

@[simp] theorem Deb.forceZero_pend (d : Deb) (v : Bool) : (d.forceZero v).pend = d.pend := by
  by_cases h : d.cnt = 0 <;> cases v <;> simp [Deb.forceZero, h]

theorem Deb.forceZero_zero (d : Deb) (v : Bool) : decide ((d.forceZero v).cnt = 0) = v := by
  by_cases h : d.cnt = 0 <;> cases v <;> simp [Deb.forceZero, h]

end Sys2Proof.Machine
end

