-- ==== Sys2Proof/Laws/Exec.lean ====
section
/-! SUPPORT. One equation for each operation's meaning under a well-formed configuration, and what a
step is in terms of them. -/

namespace Sys2Proof.Machine

variable {s : State}

theorem exec_cond (h : s.cfg.wf = true) (a : AxisIx) (raw : Raw) :
    exec (.cond a raw) s = .next (s.setRaw a raw) := perform_of_wf h _

theorem exec_reset (h : s.cfg.wf = true) (b : BtnIx) :
    exec (.reset b) s = .next (s.setDeb b ⟨.released, false, 0⟩) := perform_of_wf h _

theorem exec_count (h : s.cfg.wf = true) (b : BtnIx) :
    exec (.count b) s = .next (s.setDeb b ((s.deb b).countOp (s.freeCount b))) := perform_of_wf h _

theorem exec_deliver (h : s.cfg.wf = true) (b : BtnIx) :
    exec (.deliver b) s = .next (s.setDeb b ⟨(s.deb b).prev, false, (s.deb b).cnt⟩) :=
  perform_of_wf h _

theorem exec_poll (h : s.cfg.wf = true) (b : BtnIx) (l : Level) :
    exec (.poll b l) s = .next (s.setDeb b ((s.deb b).pollOp s.cfg.settleCycles l)) :=
  perform_of_wf h _

theorem exec_hold (h : s.cfg.wf = true) (b : BtnIx) : exec (.hold b) s = .next s := by
  rw [show exec (.hold b) s = perform s (s.setDeb b (s.deb b)) from rfl, perform_of_wf h,
    State.setDeb_self]

theorem exec_tReset (h : s.cfg.wf = true) :
    exec .tReset s = .next (s.setDebs ⟨.released, false, 0⟩ ⟨.released, false, 0⟩) :=
  perform_of_wf h _

theorem exec_tStall (h : s.cfg.wf = true) :
    exec .tStall s =
      .next (s.setDebs (s.deb0.stallOp (s.freeCount .b0)) (s.deb1.stallOp (s.freeCount .b1))) :=
  perform_of_wf h _

theorem exec_tSample (h : s.cfg.wf = true) :
    exec .tSample s =
      .next (s.setDebs (s.deb0.pollOp s.cfg.settleCycles s.inp.btn0)
        (s.deb1.pollOp s.cfg.settleCycles s.inp.btn1)) :=
  perform_of_wf h _

theorem exec_tIdle (h : s.cfg.wf = true) : exec .tIdle s = .next s := perform_of_wf h _

/-- Where an operation answers a next state, the configuration is well-formed. -/
theorem exec_next_wf {i : Instr} {t : State} (h : exec i s = .next t) : s.cfg.wf = true := by
  cases i <;> exact (perform_next h).1

/-- A step, written from the answer of the clock cycle's operations. -/
theorem step_of_execAll {t : State} (h : execAll s.operations s = .next t) :
    step s = .next t.advance := by
  simp [step, h]

theorem execAll_cons_next {i : Instr} {rest : List Instr} {t : State} (h : exec i s = .next t) :
    execAll (i :: rest) s = execAll rest t := by
  simp [execAll, h]

/-- Conditioning the sample that is on the port already changes nothing (R36: `COND` is
idempotent). -/
theorem exec_cond_present (h : s.cfg.wf = true) (a : AxisIx) :
    exec (.cond a (s.inp.raw a)) s = .next s := by
  rw [exec_cond h, State.setRaw_self]

@[simp] theorem runFor_zero (s : State) : runFor 0 s = .next s := rfl

theorem runFor_succ {t : State} (h : step s = .next t) (k : Nat) : runFor (k + 1) s = runFor k t := by
  unfold runFor
  have hs : Sys2Proof.core.step s = .next t := h
  simp only [Host.Core.run, hs]
  rfl

/-- In the ICB the operations of a clock cycle come to the block-level one: conditioning the samples
on the ports changes nothing. -/
theorem execAll_operations_icb (h : s.cfg.wf = true) (ht : s.target = .icb) :
    execAll s.operations s = execAll [decodeTop s.tsel] s := by
  have hw : s.operations =
      [.cond .a0 (s.inp.raw .a0), .cond .a1 (s.inp.raw .a1), decodeTop s.tsel] := by
    simp [State.operations, State.words, ht, decode]
  rw [hw, execAll_cons_next (exec_cond_present h .a0), execAll_cons_next (exec_cond_present h .a1)]

/-- A DEB alone performs what its own select word selects. -/
theorem operations_deb {b : BtnIx} (ht : s.target = .deb b) : s.operations = [decodeDeb b (s.sel b)] := by
  simp [State.operations, State.words, ht, decode]

/-- An AXC alone conditions the sample on its port. -/
theorem operations_axc {a : AxisIx} (ht : s.target = .axc a) :
    s.operations = [.cond a (s.inp.raw a)] := by
  simp [State.operations, State.words, ht, decode]

end Sys2Proof.Machine
end

