-- ==== Sys2Proof/Laws/PerInstr.lean ====
section
/-! SUPPORT. The family `RoundTrip`: decoding an encoded operation gives it back, whatever the bits it
does not look at; one lemma for each constructor. -/

namespace Sys2Proof.Laws.RoundTrip

/-- Decoding the encoded operation gives the operation, for every value of the unread bits. -/
def Statement (i : Instr) : Prop := ∀ fill : BitVec 5, decode (encodeWith i fill) = i

theorem cond (a : AxisIx) (raw : Raw) : Statement (.cond a raw) := fun _ => rfl

theorem reset (b : BtnIx) : Statement (.reset b) := by
  unfold Statement; cases b <;> decide

theorem count (b : BtnIx) : Statement (.count b) := by
  unfold Statement; cases b <;> decide

theorem deliver (b : BtnIx) : Statement (.deliver b) := by
  unfold Statement; cases b <;> decide

theorem poll (b : BtnIx) (level : Level) : Statement (.poll b level) := by
  unfold Statement; cases b <;> cases level <;> decide

theorem hold (b : BtnIx) : Statement (.hold b) := by
  unfold Statement; cases b <;> decide

theorem tReset : Statement .tReset := by unfold Statement; decide

theorem tStall : Statement .tStall := by unfold Statement; decide

theorem tSample : Statement .tSample := by unfold Statement; decide

theorem tIdle : Statement .tIdle := by unfold Statement; decide

end Sys2Proof.Laws.RoundTrip
end

