-- ==== Sys2Proof/Tests/Slice0.lean ====
section
/-! SUPPORT. Tests of the model against the vectors of 95_test_vectors.md, the refused configurations,
and a witness for the hypotheses of each statement. Every expected result is the spec's own. -/

namespace Sys2Proof.Tests

open Sys2Proof Sys2Proof.Machine

/-! ## Helpers -/

/-- CFG-B, CFG-D, CFG-E and CFG-F of 95_test_vectors.md section 2.1. -/
def cfgB : AxisConfig := ⟨1929, -1929, 2193, 0⟩
def cfgD : AxisConfig := ⟨0, 0, 4095, 4095⟩
def cfgE : AxisConfig := ⟨4095, -4095, 0, 0⟩
def cfgF : AxisConfig := ⟨2048, 0, 0, 0⟩

/-- An instance with settle length `n`. -/
def inst (n : Nat) : Config := { Config.sample with settleCycles := n, settleW := 3 }

/-- A state of the ICB with settle length `n` and the stimulus word `w` on the ports, and in the
coming cycles the words `ws`. -/
def icb (n : Nat) (d0 d1 : Deb) (w : BitVec 4) (ws : List (BitVec 4)) : State :=
  { cfg := inst n, target := .icb, deb0 := d0, deb1 := d1, inp := Inputs.ofWord w 1929 2048
    queue := ws.map fun v => Inputs.ofWord v 1929 2048, cycle := 0 }

/-- The same channels, channel 0 used alone. -/
def lone (n : Nat) (d0 : Deb) (w : BitVec 4) : State :=
  { icb n d0 ⟨.released, false, 0⟩ w [] with target := .deb .b0 }

/-- The answer is a next state of which `p` holds. -/
def answers (o : Host.Outcome State Fault Refusal) (p : State → Bool) : Bool :=
  match o with
  | .next t => p t
  | .fault _ => false
  | .refused _ => false

/-- The two channels are as given. -/
def debsAre (d0 d1 : Deb) (t : State) : Bool := t.deb0 == d0 && t.deb1 == d1

/-- Idle with `prev` released, and idle with `prev` pressed. -/
def rel : Deb := ⟨.released, false, 0⟩
def prs : Deb := ⟨.pressed, false, 0⟩
/-- Settling with the count `k`. -/
def settling (k : Nat) : Deb := ⟨.pressed, true, k⟩

/-! ## WellFormed: each refused configuration of section 2.1 beside the nearest accepted one -/

theorem test_wf_accepts :
    (⟨cfgB, cfgD, 0, 1, 1⟩ : Config).wf = true ∧ (⟨cfgE, cfgF, 3, 2, 1⟩ : Config).wf = true ∧
      Config.sample.wf = true := by decide
theorem test_wf_center : AxisConfig.wf { cfgE with center := 4096 } = false := by decide
theorem test_wf_negClamp_high : AxisConfig.wf { cfgF with negClamp := 1 } = false := by decide
theorem test_wf_posClamp_low : AxisConfig.wf { cfgF with posClamp := -1 } = false := by decide
theorem test_wf_posClamp_high : AxisConfig.wf { cfgD with posClamp := 4096 } = false := by decide
theorem test_wf_negClamp_low : AxisConfig.wf { cfgE with negClamp := -4096 } = false := by decide
theorem test_wf_deadzone : AxisConfig.wf { cfgD with deadzone := 4096 } = false := by decide
theorem test_wf_settleCycles :
    Config.wf { Config.sample with settleW := 2, settleCycles := 4 } = false := by decide
theorem test_wf_settleW :
    Config.wf { Config.sample with settleW := 0, settleCycles := 0 } = false := by decide
theorem test_wf_fClk : Config.wf { Config.sample with fClk := 0 } = false := by decide
theorem test_wf_axis1 :
    Config.wf { Config.sample with axis1 := { cfgD with deadzone := 4096 } } = false := by decide

/-! ## Decode: a word of each operation, from R49, R50 and R51 -/

theorem test_decode_cond : decode (.axc .a0 0b111111111111#12) = .cond .a0 4095#12 := by decide
theorem test_decode_reset : decode (.deb .b0 0b10110#5) = .reset .b0 := by decide
theorem test_decode_count : decode (.deb .b0 0b01001#5) = .count .b0 := by decide
theorem test_decode_deliver : decode (.deb .b1 0b01100#5) = .deliver .b1 := by decide
theorem test_decode_poll :
    decode (.deb .b0 0b00110#5) = .poll .b0 .pressed ∧
      decode (.deb .b1 0b00111#5) = .poll .b1 .released := by decide
theorem test_decode_hold : decode (.deb .b0 0b00101#5) = .hold .b0 := by decide
theorem test_decode_tReset : decode (.top 0b111#3) = .tReset := by decide
theorem test_decode_tStall : decode (.top 0b010#3) = .tStall := by decide
theorem test_decode_tSample : decode (.top 0b001#3) = .tSample := by decide
theorem test_decode_tIdle : decode (.top 0b000#3) = .tIdle := by decide
theorem test_decode_rejects :
    readTableWord 4 0 = .error .noFormatOfWidth ∧ readTableWord 8 32 = .error .bitAboveWidth ∧
      readTableWord 16 4096 = .error .bitAboveWidth := by decide
theorem test_decodeTableWord :
    decodeTableWord 5 0b00010 = some (.poll .b0 .pressed) ∧
      decodeTableWord 3 0b010 = some .tStall ∧ decodeTableWord 8 0b10000 = some (.reset .b0) ∧
      decodeTableWord 16 0xFFF = some (.cond .a0 4095#12) := by decide

/-! ## COND: rows of section 2.1 -/

theorem test_cond_negative_clamp :
    condOut Config.cfgC 128#12 = ⟨0x18F8#13, false, 0x18F8#13⟩ ∧
      condOut cfgE 0#12 = ⟨0x1001#13, false, 0x1001#13⟩ := by decide
theorem test_cond_deadzone_boundary :
    condOut Config.cfgC 2079#12 = ⟨0x0096#13, true, 0#13⟩ ∧
      condOut Config.cfgC 1778#12 = ⟨0x1F69#13, false, 0x1F69#13⟩ := by decide
theorem test_path_corners :
    pathOut Config.cfgC 4095#12 = ⟨0x07D0#13, false, 0x07D0#13⟩ ∧
      pathOut cfgD 4095#12 = ⟨0x0FFF#13, true, 0#13⟩ ∧
      pathOut cfgB 4095#12 = ⟨0x0876#13, false, 0x0876#13⟩ := by decide
theorem test_exec_cond :
    answers (exec (.cond .a1 1947#12) (icb 3 rel rel 0x3 []))
      (fun t => t.axisOut .a1 == ⟨0x1F9B#13, false, 0x1F9B#13⟩ &&
        t.axisOut .a0 == ⟨0#13, true, 0#13⟩) = true := by decide

/-! ## The channel's operations: rows of section 2.2, through the select word and through `exec` -/

/-- Row 15: reset abandons the delay. -/
theorem test_reset :
    answers (step (lone 3 (settling 2) 0x8)) (debsAre rel rel) = true := by decide
/-- Rows 9 and 12: the count falls, and a poll during the delay is dropped (DEB used alone). -/
theorem test_count :
    answers (step (lone 3 (settling 3) 0x0)) (debsAre (settling 2) rel) = true ∧
      answers (step (lone 3 (settling 1) 0x5)) (debsAre (settling 0) rel) = true := by decide
/-- Row 14: the poll is dropped in the delivery clock too. -/
theorem test_deliver :
    (lone 3 (settling 0) 0x5).sel .b0 = 0b01111#5 ∧ (lone 3 (settling 0) 0x5).event .b0 = true ∧
      answers (step (lone 3 (settling 0) 0x5)) (debsAre prs rel) = true := by decide
/-- Rows 2 and 19: a firing poll, also from an unreachable state. -/
theorem test_poll_fires :
    answers (step (lone 3 rel 0x4)) (debsAre (settling 3) rel) = true ∧
      answers (step (lone 3 ⟨.released, false, 2⟩ 0x4)) (debsAre (settling 3) rel) = true := by decide
/-- Rows 3 and 4: pressed and still pressed, and re-armed. -/
theorem test_poll_does_not_fire :
    answers (exec (.poll .b0 .pressed) (icb 3 prs rel 0x0 [])) (debsAre prs rel) = true ∧
      answers (exec (.poll .b0 .released) (icb 3 prs rel 0x0 [])) (debsAre rel rel) = true := by decide
/-- Row 20: an unreachable state is held. -/
theorem test_hold :
    answers (step (lone 3 ⟨.released, false, 2⟩ 0x1)) (debsAre ⟨.released, false, 2⟩ rel) = true := by
  decide

/-! ## The block's operations: rows of section 2.3 -/

/-- Row 11. -/
theorem test_tReset :
    answers (step (icb 2 (settling 1) rel 0xC [])) (debsAre rel rel) = true := by decide
/-- Rows 6 and 7: the tick is dropped, also in the delivery clock. -/
theorem test_tStall :
    answers (step (icb 2 (settling 2) rel 0x5 [])) (debsAre (settling 1) rel) = true ∧
      answers (step (icb 2 (settling 0) rel 0x5 [])) (debsAre prs rel) = true := by decide
/-- Row 9: both events in one clock. -/
theorem test_tStall_both :
    (icb 2 (settling 0) (settling 0) 0x3 []).tsel = 0b010#3 ∧
      (icb 2 (settling 0) (settling 0) 0x3 []).event .b1 = true ∧
      answers (step (icb 2 (settling 0) (settling 0) 0x3 [])) (debsAre prs prs) = true := by decide
/-- Row 4: both fire. -/
theorem test_tSample_both :
    answers (step (icb 2 rel rel 0x4 [])) (debsAre (settling 2) (settling 2)) = true := by decide
/-- Row 10: button 0 still held, button 1 fires. -/
theorem test_tSample_other :
    answers (step (icb 2 prs rel 0x5 [])) (debsAre rel (settling 2)) = true := by decide
/-- Row 5. -/
theorem test_tIdle : answers (step (icb 2 rel rel 0x0 [])) (debsAre rel rel) = true := by decide

/-! ## Host interface -/

/-- Each row of the table runs as the first operation after reset. -/
theorem test_withFetchWord :
    answers (step (State.reset.withFetchWord 5 0b01000)) (debsAre ⟨.released, true, 0⟩ rel) = true ∧
      answers (step (State.reset.withFetchWord 5 0b00010)) (debsAre (settling 3) rel) = true ∧
      answers (step (State.reset.withFetchWord 3 0b010)) (debsAre rel rel) = true ∧
      answers (step (State.reset.withFetchWord 16 0x082))
        (fun t => debsAre rel rel t) = true := by decide

/-- The encoding of program P4 (section 3). -/
theorem test_script_words :
    scriptWords Config.sample
      [.stmt (.cfg [.settleCycles 0]), .press .b1, .tick, .press .b0, .tick, .release .b1, .tick,
       .release .b0, .press .b1, .tick, .press .b0, .tick, .tick, .idle 1] =
      [0x5#4, 0x4#4, 0x6#4, 0x5#4, 0x4#4, 0x4#4, 0x0#4] := by decide

/-- `SETTLE_CYCLES = round(0.050 * F_CLK)` (R118): 50 ms at 60 Hz are 3 clocks, at 1 kHz 50. -/
theorem test_cyclesFor :
    Config.sample.cyclesFor 50 1000 = 3 ∧ Config.cyclesFor { Config.sample with fClk := 1000 } 50 1000 = 50 := by
  decide

/-! ## Witnesses: each statement's hypotheses are met together -/

theorem witness_ResetStateHasTheSpecifiedValues :
    Config.sample.wf = true ∧ (Inputs.ofWord 0x4 0 0).rst = false ∧
      (Inputs.ofWord 0x4 0 0).tick = true ∧ (Inputs.ofWord 0x4 0 0).btn .b0 = .pressed ∧
      (Inputs.ofWord 0x4 0 0).btn .b1 = .pressed := by decide
theorem witness_ResetMeetsTheInvariant : Config.sample.wf = true := by decide
theorem witness_StepKeepsTheInvariant :
    (icb 3 (settling 2) (settling 2) 0x0 []).Inv ∧ (icb 3 rel prs 0x4 []).Inv ∧
      (lone 3 (settling 3) 0x4).Inv ∧ ∃ t, step (icb 3 (settling 2) (settling 2) 0x0 []) = .next t :=
  ⟨by decide, by decide, by decide, _, rfl⟩
theorem witness_ReachableCountsMatchThePhase :
    Config.sample.wf = true ∧
      ∃ t, runFor 3 { State.resetWith Config.sample with
        inp := Inputs.ofWord 0x4 0 0, queue := [Inputs.ofWord 0x3 0 0, Inputs.ofWord 0x3 0 0] } =
          .next t ∧ debsAre (settling 1) (settling 1) t = true := ⟨by decide, _, rfl, by decide⟩
theorem witness_IllFormedConfigurationIsRefused :
    Config.wf (State.cfg { State.reset with cfg := { Config.sample with settleCycles := 4 } }) =
      false ∧
      Config.wf (State.cfg { State.reset with cfg := { Config.sample with fClk := 0 } }) = false := by
  decide
theorem witness_EveryOperationAndStepCompletes :
    (icb 3 rel rel 0x4 []).cfg.wf = true ∧ (lone 3 rel 0x4).cfg.wf = true := by decide
theorem witness_OperationsKeepTheInstanceAndTheClockedInputs :
    (∃ t, exec (.cond .a0 0#12) (icb 3 rel rel 0x4 []) = .next t) ∧
      (∃ t, exec .tSample (icb 3 rel rel 0x4 []) = .next t) ∧
      (∀ a raw, Instr.tSample ≠ .cond a raw) ∧ ∃ t, step (icb 3 rel rel 0x4 []) = .next t :=
  ⟨⟨_, rfl⟩, ⟨_, rfl⟩, (fun _ _ h => nomatch h), _, rfl⟩
theorem witness_StepRunsTheSelectedOperation :
    (icb 3 rel rel 0x4 []).cfg.wf = true ∧ (icb 3 rel rel 0x4 []).target = .icb ∧
      (lone 3 rel 0x4).target = .deb .b0 ∧
      State.target { icb 3 rel rel 0x4 [] with target := .axc .a1 } = .axc .a1 := by decide
theorem witness_PlacedTableWordIsRunByTheNextStep :
    State.reset.cfg.wf = true ∧ decodeTableWord 8 0b01000 = some (.count .b0) ∧
      decodeTableWord 8 0b100 = some .tReset ∧ decodeTableWord 16 0 = some (.cond .a0 0#12) := by decide

theorem witness_CondDrivesItsOutputsAndNothingElse :
    (icb 3 rel rel 0x4 []).cfg.wf = true ∧
      (150 : Int) = max Config.cfgC.negClamp (min Config.cfgC.posClamp ((2079#12).toNat - 1929)) ∧
      (151 : Int) = max Config.cfgC.negClamp (min Config.cfgC.posClamp ((2080#12).toNat - 1929)) := by
  decide
theorem witness_SubtractionOfTheCentreIsExact :
    Config.cfgC.wf = true ∧ (1929#12).toNat = Config.cfgC.center ∧
      (1928#12).toNat < Config.cfgC.center ∧ ¬ (1929#12).toNat < Config.cfgC.center := by decide
theorem witness_ClampIsTheThreeCases :
    Config.cfgC.wf = true ∧ Config.cfgC.posClamp < 2001 ∧ (-1801 : Int) < Config.cfgC.negClamp ∧
      Config.cfgC.negClamp ≤ -1800 ∧ (2000 : Int) ≤ Config.cfgC.posClamp ∧
      cfgF.wf = true ∧ cfgF.posClamp = 0 ∧ cfgF.negClamp = 0 ∧
      cfgB.wf = true ∧ 4095 - (cfgB.center : Int) ≤ cfgB.posClamp ∧
      cfgB.negClamp ≤ -(cfgB.center : Int) := by decide
theorem witness_AtRestIsTheDeadzoneComparison :
    cfgB.wf = true ∧ cfgB.deadzone = 0 ∧ (-1 : Int) ≠ 0 ∧ cfgD.wf = true ∧
      max (-cfgD.negClamp) cfgD.posClamp ≤ cfgD.deadzone := by decide
theorem witness_FiltIsAdjOutsideTheDeadzone :
    Config.cfgC.wf = true ∧ (condOut Config.cfgC 2079#12).atrest = true ∧
      (condOut Config.cfgC 2080#12).atrest = false ∧ cfgB.wf = true ∧ cfgB.deadzone = 0 := by decide
theorem witness_ThirteenBitPathEqualsTheIntegerFormula : cfgE.wf = true ∧ cfgD.wf = true := by decide
theorem witness_ClampOrderDoesNotMatter :
    Config.cfgC.wf = true ∧ Config.cfgC.negClamp ≤ Config.cfgC.posClamp ∧
      (-1801 : Int) < Config.cfgC.negClamp ∧ Config.cfgC.negClamp ≤ -1800 ∧
      (2000 : Int) ≤ Config.cfgC.posClamp ∧ Config.cfgC.posClamp < (2001 : Int) := by decide
theorem witness_CentreMapsToZeroAtRest :
    cfgE.wf = true ∧ (4095#12).toNat = cfgE.center := by decide
theorem witness_AdjustedValueIsMonotone :
    Config.cfgC.wf = true ∧ (0#12).toNat ≤ (4095#12).toNat ∧
      ((129#12).toNat : Int) ≤ Config.cfgC.center + Config.cfgC.negClamp ∧
      (130#12).toNat = (129#12).toNat + 1 ∧
      (Config.cfgC.center : Int) + Config.cfgC.negClamp ≤ (129#12).toNat ∧
      ((3929#12).toNat : Int) ≤ Config.cfgC.center + Config.cfgC.posClamp ∧
      (Config.cfgC.center : Int) + Config.cfgC.posClamp ≤ (3929#12).toNat := by decide
theorem witness_SaturatingTheClampsLosesNothing :
    (⟨1929, -5000, 5000, 0⟩ : AxisConfig).center ≤ 4095 ∧
      (⟨1929, -5000, 5000, 0⟩ : AxisConfig).negClamp ≤ 0 ∧
      0 ≤ (⟨1929, -5000, 5000, 0⟩ : AxisConfig).posClamp := by decide
theorem witness_ConstantSampleGivesConstantOutputs :
    (∀ j, j ≤ 2 → ((icb 3 rel rel 0x4 [0x3, 0xC]).inputAt j).raw .a0 =
      (icb 3 rel rel 0x4 [0x3, 0xC]).inp.raw .a0) ∧
      ∃ t, runFor 2 (icb 3 rel rel 0x4 [0x3, 0xC]) = .next t := ⟨by decide, _, rfl⟩

theorem witness_ResetPutsAChannelIntoItsResetState :
    (icb 3 (settling 2) rel 0x8 []).cfg.wf = true ∧ (icb 3 (settling 2) rel 0x8 []).inp.rst = true ∧
      BtnIx.b1 ≠ BtnIx.b0 := by decide
theorem witness_PollSamplesTheLevelAndDetectsThePress :
    (icb 0 rel rel 0x4 []).cfg.wf = true ∧ (icb 0 rel rel 0x4 []).inp.rst = false ∧
      ((icb 0 rel rel 0x4 []).deb .b0).pend = false ∧ (icb 0 rel rel 0x4 []).poll = true ∧
      (icb 0 rel rel 0x4 []).inp.btn .b0 = .pressed ∧
      ((icb 0 rel rel 0x4 []).deb .b0).prev = .released ∧
      decode (.deb .b0 ((icb 0 rel rel 0x2 []).sel .b0)) = .hold .b0 ∧
      (icb 0 rel rel 0x2 []).inp.rst = false ∧ (icb 0 rel rel 0x4 []).cfg.settleCycles = 0 ∧
      decode (.deb .b0 ((icb 0 rel rel 0xC []).sel .b0)) = .reset .b0 := by decide
theorem witness_CountLowersTheCountByOne :
    (icb 3 (settling 1) rel 0x0 []).cfg.wf = true ∧ ((icb 3 (settling 1) rel 0x0 []).deb .b0).cnt ≠ 0 ∧
      ((icb 3 (settling 1) rel 0x0 []).deb .b0).pend = true ∧
      (icb 3 (settling 1) rel 0x0 []).inp.rst = false := by decide
theorem witness_CountBelowZeroIsAFreeCount :
    (icb 3 (settling 0) rel 0x0 []).cfg.wf = true ∧
      ((icb 3 (settling 0) rel 0x0 []).deb .b0).cnt = 0 := by decide
theorem witness_DeliverEndsTheDelayAndSignalsTheEvent :
    (icb 3 (settling 0) rel 0x0 []).cfg.wf = true ∧
      ((icb 3 (settling 0) rel 0x0 []).deb .b0).pend = true ∧
      ((icb 3 (settling 0) rel 0x0 []).deb .b0).cnt = 0 ∧
      (icb 3 (settling 0) rel 0x0 []).inp.rst = false := by decide
theorem witness_HoldWritesNothing :
    (icb 3 rel (settling 1) 0x4 []).cfg.wf = true ∧ (icb 3 rel (settling 1) 0x4 []).target = .icb ∧
      (icb 3 rel (settling 1) 0x4 []).inp.rst = false ∧
      ((icb 3 rel (settling 1) 0x4 []).deb .b0).pend = false ∧
      ((icb 3 rel (settling 1) 0x4 []).deb .b1).pend = true ∧
      (icb 3 rel (settling 1) 0x4 []).poll = false := by decide
theorem witness_ChannelOutputsAreFunctionsOfTheState :
    (icb 3 (settling 0) rel 0x8 []).cfg.wf = true ∧ (icb 3 (settling 0) rel 0x8 []).target = .icb ∧
      (icb 3 (settling 0) rel 0x8 []).inp.rst = true ∧ (lone 3 (settling 0) 0x8).target = .deb .b0 ∧
      (lone 3 (settling 0) 0x8).inp.rst = true := by decide
theorem witness_SelectedChannelOperationIsDebStep :
    (icb 3 ⟨.released, false, 2⟩ rel 0x4 []).cfg.wf = true := by decide
theorem witness_ResetBeatsSettlingBeatsPollBeatsHold :
    (lone 3 (settling 0) 0xC).inp.rst = true ∧ ((lone 3 (settling 0) 0xC).deb .b0).pend = true ∧
      ((lone 3 (settling 0) 0xC).deb .b0).cnt = 0 ∧
      (lone 3 (settling 0) 0x4).inp.rst = false ∧ (lone 3 rel 0x4).poll = true ∧
      (lone 3 rel 0x4).inp.rst = false ∧ ((lone 3 rel 0x4).deb .b0).pend = false ∧
      (lone 3 rel 0x0).poll = false ∧ (lone 3 rel 0x0).inp.rst = false ∧
      (icb 3 (settling 0) (settling 0) 0x4 []).cfg.wf = true ∧
      (icb 3 (settling 0) (settling 0) 0x4 []).inp.rst = false ∧
      debsAre (settling 0) (settling 0) (icb 3 (settling 0) (settling 0) 0x4 []) = true ∧
      (icb 3 (settling 0) (settling 0) 0x4 []).target = .icb ∧
      (∀ raw', Instr.tReset ≠ .cond .a0 raw') ∧
      ∀ raw', Instr.cond .a1 0#12 ≠ .cond .a0 raw' := by
  exact ⟨by decide, by decide, by decide, by decide, by decide, by decide, by decide, by decide,
    by decide, by decide, by decide, by decide, by decide, (fun _ h => nomatch h),
    fun _ h => by simp at h⟩
theorem witness_LoneChannelStepsByDebStepAndDropsPolls :
    (lone 3 (settling 1) 0x4).cfg.wf = true ∧ (lone 3 (settling 1) 0x4).target = .deb .b0 ∧
      ((lone 3 (settling 1) 0x4).deb .b0).pend = true := by decide

theorem witness_BusyIsTheOrOfThePendingBits :
    ∃ o, (icb 3 rel (settling 1) 0x4 []).outputs = some o := ⟨_, rfl⟩
theorem witness_TicksPollBothChannelsOrNone :
    (icb 3 rel rel 0x4 []).cfg.wf = true ∧ (icb 3 rel rel 0x4 []).target = .icb ∧
      (icb 3 rel rel 0x4 []).inp.rst = false ∧ (icb 3 rel rel 0x4 []).inp.tick = true ∧
      (icb 3 rel rel 0x4 []).busy = false ∧ (icb 3 rel rel 0x0 []).inp.tick = false ∧
      (icb 3 (settling 0) rel 0x4 []).busy = true ∧
      (icb 3 (settling 0) rel 0x4 []).inp.rst = false := by decide
theorem witness_StepOfTheBlockIsBlockStep :
    (icb 3 rel prs 0x4 []).cfg.wf = true ∧ (icb 3 rel prs 0x4 []).target = .icb := by decide
theorem witness_BlockOperationIsTheTwoChannelOperations :
    (icb 3 (settling 1) rel 0x4 []).cfg.wf = true ∧
      (icb 3 (settling 1) rel 0x4 []).target = .icb := by decide
theorem witness_BlockResetResetsBothChannels :
    (icb 3 (settling 1) rel 0xC []).cfg.wf = true ∧ (icb 3 (settling 1) rel 0xC []).inp.rst = true := by
  decide
theorem witness_BlockStallCountsOrDelivers :
    (icb 3 (settling 0) (settling 1) 0x4 []).cfg.wf = true ∧
      (icb 3 (settling 0) (settling 1) 0x4 []).inp.rst = false ∧
      (icb 3 (settling 0) (settling 1) 0x4 []).busy = true ∧
      ((icb 3 (settling 0) (settling 1) 0x4 []).deb .b0).cnt = 0 ∧
      ((icb 3 (settling 0) (settling 1) 0x4 []).deb .b1).cnt ≠ 0 ∧
      ((icb 3 rel (settling 1) 0x4 []).deb .b0).pend = false := by decide
theorem witness_BlockSamplePollsBothChannels :
    (icb 3 rel rel 0x4 []).cfg.wf = true ∧
      (∀ b, (icb 3 rel rel 0x4 []).inp.btn b = .pressed ∧
        ((icb 3 rel rel 0x4 []).deb b).prev = .released) ∧
      (icb 3 rel rel 0x4 []).busy = false ∧
      (∃ t, exec .tSample (icb 3 prs rel 0x6 []) = .next t ∧ t.busy = false) ∧
      ∀ b, (icb 3 prs rel 0x6 []).deb b = ⟨(icb 3 prs rel 0x6 []).inp.btn b, false, 0⟩ :=
  ⟨by decide, fun b => by cases b <;> decide, by decide, ⟨_, rfl, by decide⟩,
    fun b => by cases b <;> decide⟩
theorem witness_BlockIdleKeepsTheState :
    (icb 3 prs rel 0x0 []).cfg.wf = true ∧ (icb 3 prs rel 0x0 []).inp.rst = false ∧
      (icb 3 prs rel 0x0 []).busy = false ∧ (icb 3 prs rel 0x0 []).inp.tick = false := by decide
theorem witness_SampledResetPutsTheBlockIntoItsResetState :
    (icb 3 (settling 0) prs 0xC []).cfg.wf = true ∧ (icb 3 (settling 0) prs 0xC []).target = .icb ∧
      (icb 3 (settling 0) prs 0xC []).inp.rst = true := by decide
theorem witness_ResetAbandonsADelayAndAHeldButtonFiresAgain :
    (icb 3 (settling 2) rel 0xE [0x6]).cfg.wf = true ∧ (icb 3 (settling 2) rel 0xE [0x6]).target = .icb ∧
      (icb 3 (settling 2) rel 0xE [0x6]).inp.rst = true ∧
      ((icb 3 (settling 2) rel 0xE [0x6]).deb .b0).pend = true ∧
      ((icb 3 (settling 2) rel 0xE [0x6]).inputAt 1).rst = false ∧
      ((icb 3 (settling 2) rel 0xE [0x6]).inputAt 1).tick = true ∧
      ((icb 3 (settling 2) rel 0xE [0x6]).inputAt 1).btn .b0 = .pressed := by decide
theorem witness_LevelsAreReadOnlyAtAcceptedTicks :
    (icb 3 (settling 2) rel 0x4 []).cfg.wf = true ∧ (icb 3 (settling 2) rel 0x4 []).target = .icb ∧
      (icb 3 (settling 2) rel 0x4 []).accepted = false := by decide

theorem witness_PhaseChangesOnlyByFiringDeliveringOrReset :
    (icb 3 rel (settling 0) 0x8 []).target = .icb ∧
      (∃ t, step (icb 3 rel rel 0x4 []) = .next t ∧ (t.deb .b0).pend = true) ∧
      (∃ t, step (icb 3 rel (settling 0) 0x0 []) = .next t ∧ (t.deb .b1).pend = false) :=
  ⟨rfl, ⟨_, rfl, by decide⟩, ⟨_, rfl, by decide⟩⟩
theorem witness_EventLastsOneClockCycle :
    (icb 3 (settling 0) rel 0x0 []).cfg.wf = true ∧ (icb 3 (settling 0) rel 0x0 []).event .b0 = true ∧
      (lone 3 (settling 0) 0x0).target = .deb .b0 ∧ (lone 3 (settling 0) 0x0).event .b0 = true := by
  decide
theorem witness_CountsKeepTheirWidth :
    (icb 7 (settling 7) rel 0x0 []).CountsFit ∧
      (∃ t, exec (.count .b0) (icb 7 (settling 7) rel 0x0 []) = .next t) ∧
      ∃ t, step (icb 7 (settling 7) rel 0x0 []) = .next t :=
  ⟨by decide, ⟨_, rfl⟩, _, rfl⟩
theorem witness_EventFollowsAFiringPollByTheSettleDelay :
    (icb 1 rel rel 0x4 [0x7, 0x0]).cfg.wf = true ∧ (icb 1 rel rel 0x4 [0x7, 0x0]).target = .icb ∧
      (icb 1 rel rel 0x4 [0x7, 0x0]).accepted = true ∧
      (icb 1 rel rel 0x4 [0x7, 0x0]).inp.btn .b1 = .pressed ∧
      ((icb 1 rel rel 0x4 [0x7, 0x0]).deb .b1).prev = .released ∧
      ∀ j, j ≤ 1 → ((icb 1 rel rel 0x4 [0x7, 0x0]).inputAt (1 + j)).rst = false := by decide
theorem witness_BusyLastsSettleCyclesPlusOneClocks :
    Config.sample.wf = true ∧
      (∃ t, runFor 1 { State.resetWith Config.sample with inp := Inputs.ofWord 0x4 0 0, queue := [] } =
        .next t ∧ t.deb0.pend = true ∧ t.deb1.pend = true) ∧
      (icb 0 prs rel 0x4 [0x0]).accepted = true ∧
      (∃ b, (icb 0 prs rel 0x4 [0x0]).inp.btn b = .pressed ∧
        ((icb 0 prs rel 0x4 [0x0]).deb b).prev = .released) ∧
      ∀ j, j ≤ 0 → ((icb 0 prs rel 0x4 [0x0]).inputAt (1 + j)).rst = false :=
  ⟨by decide, ⟨_, rfl, by decide, by decide⟩, by decide, ⟨.b1, by decide⟩, by decide⟩
theorem witness_OneEventPerSampledPress :
    (icb 0 rel rel 0x4 [0x0, 0x7]).target = .icb ∧
      (∀ j, j < 3 → ((icb 0 rel rel 0x4 [0x0, 0x7]).inputAt j).rst = false) ∧
      ∃ t, runFor 3 (icb 0 rel rel 0x4 [0x0, 0x7]) = .next t ∧ (t.deb .b0).pend = false :=
  ⟨rfl, by decide, _, rfl, by decide⟩
theorem witness_HeldButtonDoesNotFireAgain :
    (icb 0 (settling 0) rel 0x2 [0x6]).target = .icb ∧
      (∀ j, j < 2 → ((icb 0 (settling 0) rel 0x2 [0x6]).inputAt j).rst = false ∧
        ((icb 0 (settling 0) rel 0x2 [0x6]).inputAt j).btn .b0 = .pressed ∧
        ((icb 0 (settling 0) rel 0x2 [0x6]).inputAt j).btn .b1 = .released) ∧
      ((icb 0 (settling 0) rel 0x2 [0x6]).deb .b0).prev = .pressed ∧
      ((icb 0 (settling 0) rel 0x2 [0x6]).deb .b1).pend = false ∧
      (∃ t, runFor 2 (icb 0 (settling 0) rel 0x2 [0x6]) = .next t) ∧
      ∃ t, step (icb 0 prs rel 0x5 []) = .next t ∧ (t.deb .b0).prev = .released :=
  ⟨rfl, by decide, by decide, by decide, ⟨_, rfl⟩, _, rfl, by decide⟩
theorem witness_LevelsBetweenAcceptedTicksLeaveNoTrace :
    (∀ j, j < 2 → ((icb 1 (settling 1) rel 0x0 [0x4]).inputAt j).rst =
        ((icb 1 (settling 1) rel 0x3 [0x7]).inputAt j).rst ∧
      ((icb 1 (settling 1) rel 0x0 [0x4]).inputAt j).tick =
        ((icb 1 (settling 1) rel 0x3 [0x7]).inputAt j).tick) ∧
      (icb 1 (settling 1) rel 0x3 [0x7]).accepted = false ∧
      (∃ u, runFor 1 (icb 1 (settling 1) rel 0x3 [0x7]) = .next u ∧ u.accepted = false) ∧
      ∃ t t', runFor 2 (icb 1 (settling 1) rel 0x3 [0x7]) = .next t ∧
        runFor 2 (icb 1 (settling 1) rel 0x0 [0x4]) = .next t' :=
  ⟨by decide, by decide, ⟨_, rfl, by decide⟩, _, _, rfl, rfl⟩
theorem witness_AxisPathAndButtonPathAreIndependent :
    (∀ j, j < 2 → (State.inputAt { icb 1 rel rel 0x4 [0x7] with inp := Inputs.ofWord 0x4 7 9 } j).word =
      ((icb 1 rel rel 0x4 [0x7]).inputAt j).word) ∧
      ∃ t t', runFor 2 (icb 1 rel rel 0x4 [0x7]) = .next t ∧
        runFor 2 { icb 1 rel rel 0x4 [0x7] with inp := Inputs.ofWord 0x4 7 9 } = .next t' :=
  ⟨by decide, _, _, rfl, rfl⟩
theorem witness_ConstantLevelsGiveAtMostOneEvent :
    (icb 0 rel rel 0x6 [0x2]).Inv ∧ (icb 0 rel rel 0x6 [0x2]).target = .icb ∧
      (∀ j, j ≤ 1 → ((icb 0 rel rel 0x6 [0x2]).inputAt j).rst = false ∧
        ((icb 0 rel rel 0x6 [0x2]).inputAt j).btn .b0 = (icb 0 rel rel 0x6 [0x2]).inp.btn .b0 ∧
        ((icb 0 rel rel 0x6 [0x2]).inputAt j).btn .b1 = (icb 0 rel rel 0x6 [0x2]).inp.btn .b1) ∧
      (icb 0 rel rel 0x6 [0x2]).accepted = true ∧
      (icb 0 prs rel 0x2 [0x6]).Inv ∧
      (∀ b, ((icb 0 prs rel 0x2 [0x6]).deb b).pend = false ∧
        ((icb 0 prs rel 0x2 [0x6]).deb b).prev = (icb 0 prs rel 0x2 [0x6]).inp.btn b) :=
  ⟨by decide, rfl, by decide, by decide, by decide, fun b => by cases b <;> decide⟩
theorem witness_ScriptRunsAsItsQueuedInputs :
    ∃ (i : Inputs) (rest : List Inputs) (u : State),
      runStmts [.btn .b0 .pressed, .step false true, .raw .a0 7#12, .step false false]
        (icb 3 rel rel 0x3 []) = .ok u ∧
      stmtInputs [.btn .b0 .pressed, .step false true, .raw .a0 7#12, .step false false]
        (icb 3 rel rel 0x3 []).inp = i :: rest ∧ debsAre (settling 2) rel u = true :=
  ⟨_, _, _, rfl, rfl, by decide⟩

end Sys2Proof.Tests
end

section
/-! PROOFS. The step of an accepted tick, and the reset state (10_state.md R30). -/

namespace Sys2Proof.Machine

variable {s : State}

theorem State.outputs_of_wf (h : s.cfg.wf = true) :
    s.outputs = some
      { axis0 := s.axisOut .a0, axis1 := s.axisOut .a1
        event0 := s.event .b0, event1 := s.event .b1, busy := s.busy } := if_pos h

theorem State.accepted_iff :
    s.accepted = true ↔ s.inp.tick = true ∧ s.busy = false ∧ s.inp.rst = false := by
  simp [State.accepted, and_assoc]

/-- The block-level operation of a clock cycle, from the signals that `tsel` is assembled from
(R51). -/
theorem decodeTop_tsel (s : State) :
    decodeTop s.tsel = if s.inp.rst then .tReset else if s.busy then .tStall
      else if s.inp.tick then .tSample else .tIdle := by
  rw [decodeTop, s.tsel_rst, s.tsel_busy, s.tsel_tick]

theorem decodeTop_tsel_of_accepted (ha : s.accepted = true) : decodeTop s.tsel = .tSample := by
  obtain ⟨htick, hbusy, hrst⟩ := State.accepted_iff.1 ha
  simp [decodeTop_tsel, htick, hbusy, hrst]

/-- A step of the ICB is the block-level operation that `tsel` selects, then the next inputs. -/
theorem step_icb_of_exec {t : State} (h : s.cfg.wf = true) (ht : s.target = .icb)
    (he : exec (decodeTop s.tsel) s = .next t) : step s = .next t.advance := by
  apply step_of_execAll
  rw [execAll_operations_icb h ht, execAll_cons_next he, execAll]

/-- At an accepted tick of the ICB both channels poll, each with the level on its own port (R87). -/
theorem step_of_accepted (h : s.cfg.wf = true) (ht : s.target = .icb) (ha : s.accepted = true) :
    step s = .next (s.setDebs (s.deb0.pollOp s.cfg.settleCycles s.inp.btn0)
      (s.deb1.pollOp s.cfg.settleCycles s.inp.btn1)).advance := by
  apply step_icb_of_exec h ht
  rw [decodeTop_tsel_of_accepted ha, exec_tSample h]

/-- `step_of_accepted`, read channel by channel. -/
theorem step_of_accepted_deb (h : s.cfg.wf = true) (ht : s.target = .icb)
    (ha : s.accepted = true) :
    ∃ t, step s = .next t ∧
      ∀ b, t.deb b = (s.deb b).pollOp s.cfg.settleCycles (s.inp.btn b) :=
  ⟨_, step_of_accepted h ht ha, fun b => by cases b <;> rfl⟩

/-- The reset state presents the samples on the ports, conditioned, and no busy and no event. -/
theorem outputs_resetWith {c : Config} (h : c.wf = true) (i : Inputs) :
    State.outputs { State.resetWith c with inp := i } = some
      { axis0 := condOut c.axis0 i.raw0, axis1 := condOut c.axis1 i.raw1
        event0 := false, event1 := false, busy := false } :=
  State.outputs_of_wf (s := { State.resetWith c with inp := i }) h

/-- In the reset state nothing is settling, so every tick outside reset is accepted. -/
theorem accepted_resetWith (c : Config) {i : Inputs} (hrst : i.rst = false)
    (htick : i.tick = true) : State.accepted { State.resetWith c with inp := i } = true :=
  State.accepted_iff.2 ⟨htick, rfl, hrst⟩

end Sys2Proof.Machine

open Sys2Proof Sys2Proof.Machine

/-- Settles O1: the reset state is idle, so its first tick is accepted, and its `prev` is released, so
a button sampled pressed there fires. -/
theorem resetStateHasTheSpecifiedValues : Obligations.ResetStateHasTheSpecifiedValues := by
  unfold Obligations.ResetStateHasTheSpecifiedValues
  intro c hwf
  refine ⟨State.resetWith_deb c, fun i => ⟨_, outputs_resetWith hwf i, rfl, rfl, rfl, rfl, rfl⟩, ?_⟩
  intro i b hrst htick hpressed
  obtain ⟨t, hstep, hdeb⟩ :=
    step_of_accepted_deb (s := { State.resetWith c with inp := i }) hwf rfl
      (accepted_resetWith c hrst htick)
  have hfires : ((State.resetWith c).deb b).fires (i.btn b) = true :=
    (Deb.fires_iff _ _).2 ⟨hpressed, by rw [State.resetWith_deb]⟩
  refine ⟨t, hstep, ?_⟩
  calc t.deb b = ((State.resetWith c).deb b).pollOp c.settleCycles (i.btn b) := by
        rw [hdeb]; cases b <;> rfl
    _ = ⟨.pressed, true, c.settleCycles⟩ := Deb.pollOp_of_fires hfires _

end

section
/-! PROOFS. The stimulus word (30_encoding.md R52). -/

namespace Sys2Proof.Machine

theorem bit_ofBit (x : Bool) : (Level.ofBit x).bit = x := by cases x <;> rfl

theorem ofBit_eq_released_iff {x : Bool} : Level.ofBit x = .released ↔ x = true := by
  cases x <;> simp [Level.ofBit]

/-- A vector with one bit placed at `i` has that bit there and 0 elsewhere. -/
theorem getLsbD_bitAt {n : Nat} (i j : Nat) (b : Bool) :
    (bitAt i b : BitVec n).getLsbD j = (decide (j < n) && decide (i = j) && b) := by
  cases b with
  | false => simp [bitAt]
  | true => rw [bitAt, if_pos rfl, BitVec.getLsbD_ofNat, Nat.testBit_two_pow, Bool.and_true]

theorem Inputs.word_rst (i : Inputs) : i.word.getLsbD 3 = i.rst := by
  simp [Inputs.word, getLsbD_bitAt, -BitVec.getLsbD_eq_getElem]

theorem Inputs.word_tick (i : Inputs) : i.word.getLsbD 2 = i.tick := by
  simp [Inputs.word, getLsbD_bitAt, -BitVec.getLsbD_eq_getElem]

theorem Inputs.word_btn1 (i : Inputs) : i.word.getLsbD 1 = i.btn1.bit := by
  simp [Inputs.word, getLsbD_bitAt, -BitVec.getLsbD_eq_getElem]

theorem Inputs.word_btn0 (i : Inputs) : i.word.getLsbD 0 = i.btn0.bit := by
  simp [Inputs.word, getLsbD_bitAt, -BitVec.getLsbD_eq_getElem]

/-- The word read back from the inputs that it spells is the word, bit by bit. -/
theorem Inputs.word_ofWord (w : BitVec 4) (r0 r1 : Raw) : (Inputs.ofWord w r0 r1).word = w := by
  apply BitVec.eq_of_getLsbD_eq
  intro j hj
  match j, hj with
  | 0, _ => rw [Inputs.word_btn0, Inputs.ofWord, bit_ofBit]
  | 1, _ => rw [Inputs.word_btn1, Inputs.ofWord, bit_ofBit]
  | 2, _ => rw [Inputs.word_tick, Inputs.ofWord]
  | 3, _ => rw [Inputs.word_rst, Inputs.ofWord]

/-- The inputs are recovered from their own word beside their own samples. -/
theorem Inputs.ofWord_word (i : Inputs) : Inputs.ofWord i.word i.raw0 i.raw1 = i := by
  rw [Inputs.ofWord, i.word_rst, i.word_tick, i.word_btn1, i.word_btn0, ofBit_bit, ofBit_bit]

end Sys2Proof.Machine

open Sys2Proof.Machine

/-- Settles O12: each bit of the word is read at one input, and the word has each input at its own bit,
so the word and the clocked inputs are recovered from each other. -/
theorem stimulusWordSpellsTheClockedInputs : Obligations.StimulusWordSpellsTheClockedInputs := by
  unfold Obligations.StimulusWordSpellsTheClockedInputs
  refine ⟨fun w r0 r1 => ⟨Inputs.word_ofWord w r0 r1, rfl, rfl, ?_, ?_, rfl, rfl⟩,
    Inputs.ofWord_word⟩
  · exact ofBit_eq_released_iff
  · exact ofBit_eq_released_iff

end

section
/-! PROOFS. The axis conditioner, stage by stage: the subtraction (40_axis_conditioner.md R57), the
clamp (R58), the deadzone test (R59), the filter (R60), and `COND` as a whole (R61). -/

namespace Sys2Proof.Machine

variable {c : AxisConfig}

/-! ## SUB (R57) -/

/-- Zero-extension keeps a 12-bit number as it is, read signed in 13 bits (R48). -/
theorem sval_zeroExtend (v : BitVec 12) : sval (v.zeroExtend 13) = v.toNat := by
  have hv := v.isLt
  rw [sval, BitVec.toInt_setWidth, Int.bmod_eq_of_le] <;> omega

/-- The centre of a well-formed axis reads back as it is (R48). -/
theorem sval_centerOperand (h : c.wf = true) : sval (centerOperand c) = c.center := by
  have hr := axisConfig_ranges h
  rw [centerOperand, sval_zeroExtend, u12, BitVec.toNat_ofNat, Nat.mod_eq_of_lt (by omega)]

/-- The 13-bit subtraction is the integer one where 13 bits hold the difference (R57). -/
theorem sval_sub {v w : Adj} (hlo : -4096 ≤ sval v - sval w) (hhi : sval v - sval w ≤ 4095) :
    sval (v - w) = sval v - sval w := by
  simp only [sval] at hlo hhi ⊢
  rw [BitVec.toInt_sub, Int.bmod_eq_of_le] <;> omega

theorem neg_center_le_axisDelta (c : AxisConfig) (raw : Raw) :
    -(c.center : Int) ≤ axisDelta c raw := by
  rw [axisDelta_eq]
  omega

theorem axisDelta_le (c : AxisConfig) (raw : Raw) : axisDelta c raw ≤ 4095 - c.center := by
  have hraw := raw.isLt
  rw [axisDelta_eq]
  omega

/-- The hardware's difference reads as the integer difference (R57, R62). -/
theorem sval_pathDelta (h : c.wf = true) (raw : Raw) : sval (pathDelta c raw) = axisDelta c raw := by
  have hr := axisConfig_ranges h
  have hlo := neg_center_le_axisDelta c raw
  have hhi := axisDelta_le c raw
  have hoperands : sval (rawOperand raw) - sval (centerOperand c) = axisDelta c raw := by
    rw [rawOperand, sval_zeroExtend, sval_centerOperand h, axisDelta_eq]
  rw [pathDelta, sval_sub (by omega) (by omega), hoperands]

theorem pathDelta_eq_s13 (h : c.wf = true) (raw : Raw) :
    pathDelta c raw = s13 (axisDelta c raw) := by
  have hr := axisConfig_ranges h
  have hlo := neg_center_le_axisDelta c raw
  have hhi := axisDelta_le c raw
  apply adj_ext
  rw [sval_pathDelta h, sval_s13 (by omega) (by omega)]

/-- Bit 12 of a value of the data path is its sign (R44). -/
theorem getLsbD_twelve_iff (v : Adj) : v.getLsbD 12 = true ↔ sval v < 0 := by
  rw [← BitVec.msb_eq_getLsbD_last v, BitVec.msb_eq_toInt, decide_eq_true_eq, sval]

/-! ## CLAMP (R58) -/

/-- Where the bounds are in order, the lower one may be applied first (R63). -/
theorem axisClamp_eq_lowerFirst (hc : c.negClamp ≤ c.posClamp) (d : Int) :
    axisClamp c d = min c.posClamp (max c.negClamp d) := by
  rw [axisClamp]
  omega

theorem axisClamp_of_gt (hc : c.negClamp ≤ c.posClamp) {d : Int} (hd : c.posClamp < d) :
    axisClamp c d = c.posClamp := by
  rw [axisClamp, min_eq_left hd.le, max_eq_right hc]

theorem axisClamp_of_lt (hc : c.negClamp ≤ c.posClamp) {d : Int} (hd : d < c.negClamp) :
    axisClamp c d = c.negClamp := by
  rw [axisClamp, min_eq_right (hd.le.trans hc), max_eq_left hd.le]

theorem axisClamp_of_between {d : Int} (hlo : c.negClamp ≤ d) (hhi : d ≤ c.posClamp) :
    axisClamp c d = d := by
  rw [axisClamp, min_eq_right hhi, max_eq_right hlo]

theorem negClamp_le_axisClamp (c : AxisConfig) (d : Int) : c.negClamp ≤ axisClamp c d :=
  le_max_left _ _

theorem axisClamp_le_posClamp (hc : c.negClamp ≤ c.posClamp) (d : Int) :
    axisClamp c d ≤ c.posClamp :=
  max_le hc (min_le_left _ _)

theorem negClamp_le_posClamp (h : c.wf = true) : c.negClamp ≤ c.posClamp := by
  have hr := axisConfig_ranges h
  omega

/-- The clamped value lies between the clamps (R62). -/
theorem axisAdj_bounds (h : c.wf = true) (raw : Raw) :
    c.negClamp ≤ axisAdj c raw ∧ axisAdj c raw ≤ c.posClamp :=
  ⟨negClamp_le_axisClamp c _, axisClamp_le_posClamp (negClamp_le_posClamp h) _⟩

/-- A magnitude needs 12 bits: the clamped value is never -4096 (R62). -/
theorem natAbs_axisAdj_le (h : c.wf = true) (raw : Raw) : (axisAdj c raw).natAbs ≤ 4095 := by
  have hr := axisConfig_ranges h
  have hb := axisAdj_bounds h raw
  omega

/-- The output `adj` reads as the clamped value (R58). -/
theorem sval_condOut_adj (h : c.wf = true) (raw : Raw) :
    sval (condOut c raw).adj = axisAdj c raw := by
  have hmag := natAbs_axisAdj_le h raw
  rw [condOut_adj, sval_s13 (by omega) (by omega)]

/-- With both clamps 0 every sample is clamped to 0 (R58). -/
theorem axisAdj_eq_zero (h : c.wf = true) (hpos : c.posClamp = 0) (hneg : c.negClamp = 0)
    (raw : Raw) : axisAdj c raw = 0 := by
  have hb := axisAdj_bounds h raw
  omega

/-! ## DZ (R59) -/

theorem condOut_atrest_iff (c : AxisConfig) (raw : Raw) :
    (condOut c raw).atrest = true ↔ (axisAdj c raw).natAbs ≤ c.deadzone :=
  atRest_iff c _

/-- The 12-bit magnitude is the magnitude of the reading, of every value but -4096, whose magnitude
needs a thirteenth bit (R59). -/
theorem magnitude_toNat {v : Adj} (h : -4095 ≤ sval v) : (magnitude v).toNat = (sval v).natAbs := by
  have hv := v.isLt
  rw [sval, BitVec.toInt_eq_msb_cond] at h ⊢
  have hsign := BitVec.msb_eq_decide v
  cases hm : v.msb with
  | false =>
    have hsmall : v.toNat < 4096 := by simpa [hm] using hsign
    simp [magnitude, hm, Nat.mod_eq_of_lt hsmall]
  | true =>
    have hlarge : 4096 ≤ v.toNat := by simpa [hm] using hsign
    simp only [hm, if_true] at h
    simp only [magnitude, hm, if_true, BitVec.truncate_eq_setWidth, BitVec.toNat_setWidth,
      BitVec.toNat_neg]
    omega

/-! ## FILT (R60) -/

theorem axisFilt_eq (c : AxisConfig) (raw : Raw) :
    axisFilt c raw = if (axisAdj c raw).natAbs ≤ c.deadzone then 0 else axisAdj c raw := by
  simp only [axisFilt, atRest_iff]

theorem condOut_filt_of_atrest {raw : Raw} (hrest : (condOut c raw).atrest = true) :
    (condOut c raw).filt = 0 := by
  rw [condOut_filt, axisFilt, ← condOut_atrest, if_pos hrest]
  rfl

theorem condOut_filt_of_not_atrest {raw : Raw} (hrest : (condOut c raw).atrest = false) :
    (condOut c raw).filt = (condOut c raw).adj := by
  rw [condOut_filt, axisFilt, ← condOut_atrest, hrest, condOut_adj]
  rfl

/-- Without a deadzone only 0 is at rest, so the filter changes nothing (R60). -/
theorem condOut_filt_of_deadzone_zero (hdz : c.deadzone = 0) (raw : Raw) :
    (condOut c raw).filt = (condOut c raw).adj := by
  cases hrest : (condOut c raw).atrest with
  | false => exact condOut_filt_of_not_atrest hrest
  | true =>
    have hzero : axisAdj c raw = 0 := by
      have hmag := (condOut_atrest_iff c raw).1 hrest
      omega
    rw [condOut_filt_of_atrest hrest, condOut_adj, hzero]
    rfl

/-! ## COND (R61) -/

theorem State.axisOut_setRaw_same (s : State) (a : AxisIx) (raw : Raw) :
    (s.setRaw a raw).axisOut a = condOut (s.cfg.axis a) raw := by
  simp only [State.axisOut, State.setRaw_cfg, State.setRaw_inp, Inputs.setRaw_raw_same]

theorem State.axisOut_setRaw_other (s : State) {a a' : AxisIx} (raw : Raw) (ha : a' ≠ a) :
    (s.setRaw a raw).axisOut a' = s.axisOut a' := by
  simp only [State.axisOut, State.setRaw_cfg, State.setRaw_inp,
    Inputs.setRaw_raw_other s.inp a a' raw ha]

@[simp] theorem State.setRaw_event (s : State) (a : AxisIx) (raw : Raw) (b : BtnIx) :
    (s.setRaw a raw).event b = s.event b := by
  simp only [State.event, State.setRaw_deb]

@[simp] theorem State.setRaw_busy (s : State) (a : AxisIx) (raw : Raw) :
    (s.setRaw a raw).busy = s.busy := rfl

end Sys2Proof.Machine

open Sys2Proof Sys2Proof.Machine

/-- Settles O15: COND puts the sample on its port and writes nothing else, so the outputs of its axis
are those of the sample and everything else stays. -/
theorem condDrivesItsOutputsAndNothingElse : Obligations.CondDrivesItsOutputsAndNothingElse := by
  unfold Obligations.CondDrivesItsOutputsAndNothingElse
  intro a raw s hwf
  refine ⟨s.setRaw a raw, exec_cond hwf a raw, ?outputs, Inputs.setRaw_raw_same _ a raw, ?otherAxis,
    ?buttons, s.setRaw_busy a raw, s.inp.setRaw_rst a raw, s.inp.setRaw_tick a raw,
    rfl, rfl, rfl, rfl⟩
  case outputs =>
    intro v hv
    rw [← axisAdj_eq] at hv
    subst hv
    rw [State.axisOut_setRaw_same, ← axisFilt_eq]
    exact ⟨condOut_adj _ raw, condOut_atrest_iff _ raw, condOut_filt _ raw⟩
  case otherAxis =>
    exact fun a' ha =>
      ⟨Inputs.setRaw_raw_other s.inp a a' raw ha, State.axisOut_setRaw_other s raw ha⟩
  case buttons =>
    exact fun b => ⟨s.setRaw_deb a raw b, s.setRaw_event a raw b, s.inp.setRaw_btn a raw b⟩

/-- Settles O16: 13 bits hold every difference, so the subtraction does not wrap and bit 12 is its
sign. -/
theorem subtractionOfTheCentreIsExact : Obligations.SubtractionOfTheCentreIsExact := by
  unfold Obligations.SubtractionOfTheCentreIsExact
  intro c raw hwf
  refine ⟨axisDelta_eq c raw, neg_center_le_axisDelta c raw, axisDelta_le c raw,
    pathDelta_eq_s13 hwf raw, sval_pathDelta hwf raw, ?atCentre, ?belowCentre⟩
  case atCentre =>
    intro hraw
    rw [axisDelta_eq, hraw, sub_self]
  case belowCentre =>
    rw [getLsbD_twelve_iff, sval_pathDelta hwf, axisDelta_eq, sub_neg, Nat.cast_lt]

/-- Settles O17: the clamps of a well-formed axis are in order with 0 between them, so each difference
meets one of the three cases, and the corner cases are instances of these. -/
theorem clampIsTheThreeCases : Obligations.ClampIsTheThreeCases := by
  unfold Obligations.ClampIsTheThreeCases
  intro c hwf
  have hc := negClamp_le_posClamp hwf
  refine ⟨fun d => ⟨rfl, axisClamp_eq_lowerFirst hc d, axisClamp_of_gt hc, axisClamp_of_lt hc,
    axisClamp_of_between⟩, ?posZero, ?negZero, ?bothZero, ?posBeyond, ?negBeyond,
    sval_condOut_adj hwf⟩
  case posZero =>
    intro hpos d hd
    rw [axisClamp_of_gt hc (hpos ▸ hd), hpos]
  case negZero =>
    intro hneg d hd
    rw [axisClamp_of_lt hc (hneg ▸ hd), hneg]
  case bothZero =>
    intro hpos hneg raw
    have hzero := axisAdj_eq_zero hwf hpos hneg raw
    exact ⟨hzero, by rw [condOut_adj, hzero]; rfl⟩
  case posBeyond => exact fun hbeyond raw => (axisDelta_le c raw).trans hbeyond
  case negBeyond => exact fun hbeyond raw => hbeyond.trans (neg_center_le_axisDelta c raw)

/-- Settles O18: the flag compares the magnitude of the clamped value, which 12 bits carry and which
the larger clamp bounds. -/
theorem atRestIsTheDeadzoneComparison : Obligations.AtRestIsTheDeadzoneComparison := by
  unfold Obligations.AtRestIsTheDeadzoneComparison
  intro c hwf
  refine ⟨condOut_atrest_iff c, fun raw => ⟨natAbs_axisAdj_le hwf raw, ?magnitude⟩,
    (atRest_iff c 0).2 (Nat.zero_le _), ?noDeadzone, ?symmetric, ?wideDeadzone⟩
  case magnitude =>
    have hmag := natAbs_axisAdj_le hwf raw
    have hread := sval_condOut_adj hwf raw
    rw [magnitude_toNat (by omega), hread]
  case noDeadzone =>
    intro hdz v hv
    rw [← Bool.not_eq_true, atRest_iff]
    omega
  case symmetric =>
    intro v
    rw [atRest, Int.natAbs_neg, atRest]
  case wideDeadzone =>
    intro hwide raw
    have hb := axisAdj_bounds hwf raw
    rw [condOut_atrest_iff]
    omega

/-- Settles O19: the filter gives 0 at rest and `adj` itself otherwise, whose magnitude is then above
the deadzone. -/
theorem filtIsAdjOutsideTheDeadzone : Obligations.FiltIsAdjOutsideTheDeadzone := by
  unfold Obligations.FiltIsAdjOutsideTheDeadzone
  intro c raw hwf
  refine ⟨condOut_filt c raw, condOut_filt_of_atrest,
    fun hrest => ⟨condOut_filt_of_not_atrest hrest, ?_⟩,
    fun hdz => condOut_filt_of_deadzone_zero hdz raw⟩
  have hactive : ¬ (axisAdj c raw).natAbs ≤ c.deadzone := by
    rw [← condOut_atrest_iff, hrest]
    exact Bool.false_ne_true
  rw [condOut_filt_of_not_atrest hrest, sval_condOut_adj hwf]
  omega

end

section
/-! PROOFS. The operations of a button channel (41_button_debouncer.md R67 to R72): when a channel's
select word names each of them, what the selected operation writes, and the channel's flags. -/

namespace Sys2Proof.Machine

variable {s : State} {b : BtnIx}

/-! ## Selection (30_encoding.md R50) -/

/-- The operation of a channel, from the signals that `sel` is assembled from. -/
theorem decode_sel (s : State) (b : BtnIx) :
    decode (.deb b (s.sel b)) =
      if s.inp.rst then .reset b
      else if (s.deb b).pend then (if (s.deb b).cnt = 0 then .deliver b else .count b)
      else if s.poll then .poll b (s.inp.btn b)
      else .hold b := by
  rw [decode, decodeDeb, s.sel_rst, s.sel_pend, s.sel_zero, s.sel_poll, s.sel_level, ofBit_bit]
  simp only [decide_eq_true_eq]

theorem decode_sel_eq_reset_iff :
    decode (.deb b (s.sel b)) = .reset b ↔ s.inp.rst = true := by
  rw [decode_sel]
  split_ifs <;> simp [*]

theorem decode_sel_eq_count_iff :
    decode (.deb b (s.sel b)) = .count b ↔
      s.inp.rst = false ∧ (s.deb b).pend = true ∧ (s.deb b).cnt ≠ 0 := by
  rw [decode_sel]
  split_ifs <;> simp_all

theorem decode_sel_eq_deliver_iff :
    decode (.deb b (s.sel b)) = .deliver b ↔
      s.inp.rst = false ∧ (s.deb b).pend = true ∧ (s.deb b).cnt = 0 := by
  rw [decode_sel]
  split_ifs <;> simp_all

theorem decode_sel_eq_poll_iff {l : Level} :
    decode (.deb b (s.sel b)) = .poll b l ↔
      s.inp.rst = false ∧ (s.deb b).pend = false ∧ s.poll = true ∧ s.inp.btn b = l := by
  rw [decode_sel]
  split_ifs <;> simp_all

theorem decode_sel_eq_hold_iff :
    decode (.deb b (s.sel b)) = .hold b ↔
      s.inp.rst = false ∧ (s.deb b).pend = false ∧ s.poll = false := by
  rw [decode_sel]
  split_ifs <;> simp_all

/-- No poll is selected exactly where reset, a settle delay or the missing strobe forbids it. -/
theorem decode_sel_ne_poll_iff :
    (∀ l, decode (.deb b (s.sel b)) ≠ .poll b l) ↔
      ¬ (s.inp.rst = false ∧ (s.deb b).pend = false ∧ s.poll = true) := by
  constructor
  · rintro hne ⟨hrst, hidle, hstrobe⟩
    exact hne _ (decode_sel_eq_poll_iff.2 ⟨hrst, hidle, hstrobe, rfl⟩)
  · intro hno l hsel
    obtain ⟨hrst, hidle, hstrobe, -⟩ := decode_sel_eq_poll_iff.1 hsel
    exact hno ⟨hrst, hidle, hstrobe⟩

theorem State.poll_icb (ht : s.target = .icb) : s.poll = (s.inp.tick && !s.busy) := by
  simp only [State.poll, ht]

/-! ## What the selected operation writes (R73) -/

theorem exec_count_of_ne_zero (h : s.cfg.wf = true) (hcnt : (s.deb b).cnt ≠ 0) :
    exec (.count b) s =
      .next (s.setDeb b ⟨(s.deb b).prev, (s.deb b).pend, (s.deb b).cnt - 1⟩) := by
  rw [exec_count h, Deb.countOp_of_ne_zero hcnt]

/-- The operation that the select word names has the effect of `deb_step` on its channel. -/
theorem exec_decode_sel (h : s.cfg.wf = true) (b : BtnIx) :
    exec (decode (.deb b (s.sel b))) s =
      .next (s.setDeb b
        (debStep s.cfg.settleCycles (s.deb b) s.inp.rst s.poll (s.inp.btn b))) := by
  obtain ⟨hrst, hstep⟩ | ⟨hrst, hpend, hcnt, hstep⟩ | ⟨hrst, hpend, hcnt, hstep⟩ |
    ⟨hrst, hpend, hpoll, hstep⟩ | ⟨hrst, hpend, hpoll, hstep⟩ :=
    debStep_cases s.cfg.settleCycles (s.deb b) s.inp.rst s.poll (s.inp.btn b)
  · rw [hstep, decode_sel_eq_reset_iff.2 hrst, exec_reset h]
  · rw [hstep, decode_sel_eq_count_iff.2 ⟨hrst, hpend, hcnt⟩, exec_count_of_ne_zero h hcnt,
      hpend]
  · rw [hstep, decode_sel_eq_deliver_iff.2 ⟨hrst, hpend, hcnt⟩, exec_deliver h, hcnt]
  · rw [hstep, decode_sel_eq_poll_iff.2 ⟨hrst, hpend, hpoll, rfl⟩, exec_poll h]
  · rw [hstep, decode_sel_eq_hold_iff.2 ⟨hrst, hpend, hpoll⟩, exec_hold h, State.setDeb_self]

/-- Outside reset and away from a poll a channel keeps the level it last sampled. -/
theorem debStep_prev {d : Deb} {poll : Bool} (hpoll : ¬ (d.pend = false ∧ poll = true)) (n : Nat)
    (l : Level) : (debStep n d false poll l).prev = d.prev := by
  obtain ⟨hrst, -⟩ | ⟨-, -, -, hstep⟩ | ⟨-, -, -, hstep⟩ | ⟨-, hpend, hstrobe, -⟩ |
    ⟨-, -, -, hstep⟩ := debStep_cases n d false poll l
  · cases hrst
  · rw [hstep]
  · rw [hstep]
  · exact absurd ⟨hpend, hstrobe⟩ hpoll
  · rw [hstep]

/-- Away from a poll a channel does not read the level on its port. -/
theorem debStep_level_congr {d : Deb} {rst poll : Bool}
    (hpoll : ¬ (rst = false ∧ d.pend = false ∧ poll = true)) (n : Nat) (l l' : Level) :
    debStep n d rst poll l = debStep n d rst poll l' := by
  cases rst with
  | true => rfl
  | false =>
    cases hpend : d.pend with
    | true => simp [debStep, hpend]
    | false =>
      have hstrobe : poll = false := by simpa [hpend] using hpoll
      simp [debStep, hpend, hstrobe]

theorem Deb.pollOp_pend_iff (d : Deb) (n : Nat) (l : Level) :
    (d.pollOp n l).pend = true ↔ l = .pressed ∧ d.prev = .released := d.fires_iff l

theorem Deb.pollOp_cnt (d : Deb) (n : Nat) (l : Level) :
    (d.pollOp n l).cnt = if l = .pressed ∧ d.prev = .released then n else 0 := by
  simp only [Deb.pollOp, Deb.fires_iff]

/-- A poll delivers its event in the next clock exactly when it fires with no settle delay. -/
theorem Deb.pollOp_event_iff (d : Deb) (n : Nat) (l : Level) :
    (d.pollOp n l).event = true ↔ (l = .pressed ∧ d.prev = .released) ∧ n = 0 := by
  rw [Deb.event_iff, d.pollOp_pend_iff, d.pollOp_cnt]
  exact and_congr_right fun hfires => by rw [if_pos hfires]

/-- Writing one channel changes nothing but that channel. -/
theorem State.setDeb_frame (s : State) (b : BtnIx) (d : Deb) :
    s.SameSurroundings (s.setDeb b d) ∧ ∀ b', b' ≠ b → (s.setDeb b d).deb b' = s.deb b' :=
  ⟨⟨s.setDeb_cfg b d, s.setDeb_target b d, s.setDeb_inp b d, s.setDeb_queue b d,
    s.setDeb_cycle b d⟩, fun b' hb => s.setDeb_deb_other b b' d hb⟩

@[simp] theorem State.setDeb_setDeb (s : State) (b : BtnIx) (d d' : Deb) :
    (s.setDeb b d).setDeb b d' = s.setDeb b d' := by cases b <;> rfl

/-! ## Flags (R72) -/

theorem State.event_iff : s.event b = true ↔ (s.deb b).pend = true ∧ (s.deb b).cnt = 0 :=
  (s.deb b).event_iff

@[simp] theorem State.setDeb_event (s : State) (b : BtnIx) (d : Deb) :
    (s.setDeb b d).event b = d.event := by
  rw [State.event, State.setDeb_deb_same]

theorem State.busy_of_pend (hpend : (s.deb b).pend = true) : s.busy = true := by
  rw [State.busy_eq, Bool.or_eq_true]
  cases b
  · exact .inl hpend
  · exact .inr hpend

/-! ## Other inputs on the ports -/

@[simp] theorem State.withInp_deb (s : State) (i : Inputs) (b : BtnIx) :
    State.deb { s with inp := i } b = s.deb b := by cases b <;> rfl

@[simp] theorem State.withInp_event (s : State) (i : Inputs) (b : BtnIx) :
    State.event { s with inp := i } b = s.event b := by
  rw [State.event, State.withInp_deb, State.event]

theorem State.withInp_busy (s : State) (i : Inputs) : State.busy { s with inp := i } = s.busy := rfl

/-- The strobe does not read the levels. -/
theorem State.poll_setBtn (s : State) (b : BtnIx) (l : Level) :
    State.poll { s with inp := s.inp.setBtn b l } = s.poll := by
  unfold State.poll
  rw [State.withInp_busy, Inputs.setBtn_tick]

/-- Away from a poll the selected operation writes the same channel state whatever the level. -/
theorem exec_decode_sel_setBtn (h : s.cfg.wf = true)
    (hpoll : ¬ (s.inp.rst = false ∧ (s.deb b).pend = false ∧ s.poll = true)) (l : Level) :
    exec (decode (.deb b (State.sel { s with inp := s.inp.setBtn b l } b)))
        { s with inp := s.inp.setBtn b l } =
      .next (State.setDeb { s with inp := s.inp.setBtn b l } b
        (debStep s.cfg.settleCycles (s.deb b) s.inp.rst s.poll (s.inp.btn b))) := by
  rw [exec_decode_sel (s := { s with inp := s.inp.setBtn b l }) h, State.withInp_deb,
    State.poll_setBtn, Inputs.setBtn_rst, debStep_level_congr hpoll]

/-! ## A sampled reset -/

/-- A step of a DEB used alone is the operation that its `sel` selects, then the next inputs. -/
theorem step_deb_of_exec {t : State} (ht : s.target = .deb b)
    (he : exec (decode (.deb b (s.sel b))) s = .next t) : step s = .next t.advance := by
  apply step_of_execAll
  rw [operations_deb ht]
  exact execAll_cons_next he

/-- The step of a sampled reset leaves a driven channel in its reset state, in the ICB and alone. -/
theorem step_of_rst_deb (h : s.cfg.wf = true) (ht : s.target = .icb ∨ s.target = .deb b)
    (hrst : s.inp.rst = true) :
    ∃ t, step s = .next t ∧ t.deb b = ⟨.released, false, 0⟩ := by
  obtain hicb | halone := ht
  · have hsel : decodeTop s.tsel = .tReset := by rw [decodeTop_tsel, if_pos hrst]
    exact ⟨_, step_icb_of_exec h hicb (hsel ▸ exec_tReset h), by cases b <;> rfl⟩
  · have hsel := decode_sel_eq_reset_iff (b := b) |>.2 hrst
    exact ⟨_, step_deb_of_exec halone (hsel ▸ exec_reset h b), by
      rw [State.advance_deb, State.setDeb_deb_same]⟩

end Sys2Proof.Machine

open Sys2Proof Sys2Proof.Machine

/-- Settles O26: RESET writes the same record over any channel, so a second one changes nothing;
that record is idle with `prev` released, so a pressed level fires. -/
theorem resetPutsAChannelIntoItsResetState : Obligations.ResetPutsAChannelIntoItsResetState := by
  unfold Obligations.ResetPutsAChannelIntoItsResetState
  refine ⟨fun s b => decode_sel_eq_reset_iff, fun s b hwf => ?_⟩
  obtain ⟨hsame, hother⟩ := s.setDeb_frame b ⟨.released, false, 0⟩
  have hdeb := s.setDeb_deb_same b ⟨.released, false, 0⟩
  refine ⟨_, exec_reset hwf b, hdeb, hsame, hother, ?busy, s.setDeb_event b _, ?again, ?fires⟩
  case busy => rw [hdeb]; rfl
  case again => rw [exec_reset (by rwa [State.setDeb_cfg]), State.setDeb_setDeb]
  case fires => rw [hdeb]; rfl

/-- Settles O27: POLL writes the record of its level and of whether it fired; away from a poll
`deb_step` neither writes `prev` nor reads the level. -/
theorem pollSamplesTheLevelAndDetectsThePress :
    Obligations.PollSamplesTheLevelAndDetectsThePress := by
  unfold Obligations.PollSamplesTheLevelAndDetectsThePress
  refine ⟨fun s b l => decode_sel_eq_poll_iff, ?effect, ?keepsPrev, ?ignoresLevel⟩
  case effect =>
    intro s b l hwf
    obtain ⟨hsame, hother⟩ := s.setDeb_frame b ((s.deb b).pollOp s.cfg.settleCycles l)
    have hdeb := s.setDeb_deb_same b ((s.deb b).pollOp s.cfg.settleCycles l)
    have hpend := (s.deb b).pollOp_pend_iff s.cfg.settleCycles l
    have hcnt := (s.deb b).pollOp_cnt s.cfg.settleCycles l
    have hevent := (s.deb b).pollOp_event_iff s.cfg.settleCycles l
    rw [← hdeb] at hpend hcnt
    rw [← s.setDeb_event b] at hevent
    refine ⟨_, exec_poll hwf b l, congrArg Deb.prev hdeb, hpend, hcnt, hsame, hother,
      fun hfires => State.busy_of_pend (hpend.2 hfires), hevent, ?_⟩
    intro hl hprev hsettle i hrst
    obtain ⟨hpending, hzero⟩ := State.event_iff.1 (hevent.2 ⟨⟨hl, hprev⟩, hsettle⟩)
    exact decode_sel_eq_deliver_iff.2
      ⟨hrst, by rwa [State.withInp_deb], by rwa [State.withInp_deb]⟩
  case keepsPrev =>
    intro s b hwf hrst hpoll
    refine ⟨_, exec_decode_sel hwf b, ?_⟩
    rw [State.setDeb_deb_same, hrst]
    exact debStep_prev (fun h => decode_sel_ne_poll_iff.1 hpoll ⟨hrst, h⟩) _ _
  case ignoresLevel =>
    intro s b l hwf hpoll
    refine ⟨_, _, exec_decode_sel hwf b,
      exec_decode_sel_setBtn hwf (decode_sel_ne_poll_iff.1 hpoll) l, ?_⟩
    rw [State.setDeb_deb_same, State.setDeb_deb_same]

/-- Settles O28: on a count that is not 0 the operation takes 1 away and writes no other element;
such a channel is busy and, as its count is not 0, without an event. -/
theorem countLowersTheCountByOne : Obligations.CountLowersTheCountByOne := by
  unfold Obligations.CountLowersTheCountByOne
  refine ⟨fun s b => decode_sel_eq_count_iff, ?effect, ?flags⟩
  case effect =>
    intro s b hwf hcnt
    obtain ⟨hsame, hother⟩ :=
      s.setDeb_frame b ⟨(s.deb b).prev, (s.deb b).pend, (s.deb b).cnt - 1⟩
    have hdeb := s.setDeb_deb_same b ⟨(s.deb b).prev, (s.deb b).pend, (s.deb b).cnt - 1⟩
    refine ⟨_, exec_count_of_ne_zero hwf hcnt, ?cnt, by rw [hdeb], by rw [hdeb], hsame, hother⟩
    case cnt =>
      rw [hdeb]
      exact Nat.sub_one_add_one hcnt
  case flags =>
    intro s b hpend hcnt
    refine ⟨State.busy_of_pend hpend, ?_⟩
    rw [← Bool.not_eq_true, State.event_iff]
    exact fun hevent => hcnt hevent.2

/-- Settles O31: HOLD writes its channel's own record back; in the ICB a settling channel makes the
block busy, which withholds the strobe from the other one. -/
theorem holdWritesNothing : Obligations.HoldWritesNothing := by
  unfold Obligations.HoldWritesNothing
  refine ⟨fun s b => decode_sel_eq_hold_iff, fun s b hwf => exec_hold hwf b, ?_⟩
  intro s b b' hicb hrst hidle hsettling
  have hpoll : s.poll = false := by
    rw [State.poll_icb hicb, State.busy_of_pend hsettling, Bool.not_true, Bool.and_false]
  exact decode_sel_eq_hold_iff.2 ⟨hrst, hidle, hpoll⟩

/-- Settles O32: both flags are read from the channel's record, which other inputs leave as it is
and which a sampled reset replaces by the idle one. -/
theorem channelOutputsAreFunctionsOfTheState :
    Obligations.ChannelOutputsAreFunctionsOfTheState := by
  unfold Obligations.ChannelOutputsAreFunctionsOfTheState
  refine ⟨fun s b => ⟨rfl, State.event_iff, fun i => ⟨s.withInp_event i b, s.withInp_busy i⟩⟩, ?_⟩
  intro s b hwf htarget hrst
  obtain ⟨t, hstep, hdeb⟩ := step_of_rst_deb hwf htarget hrst
  refine ⟨t, hstep, ?busy, ?event⟩
  case busy => rw [hdeb]; rfl
  case event => rw [State.event, hdeb]; rfl

end

section
/-! PROOFS. The block (42_top_level.md R82, R83, R85, R86, R88): when `tsel` names each of its
operations, what that operation writes channel by channel, and the step of the ICB. -/

namespace Sys2Proof.Machine

variable {s : State}

/-! ## Selection (30_encoding.md R51) -/

theorem decode_tsel_eq_tReset_iff : decode (.top s.tsel) = .tReset ↔ s.inp.rst = true := by
  rw [decode, decodeTop_tsel]
  split_ifs <;> simp_all

theorem decode_tsel_eq_tStall_iff :
    decode (.top s.tsel) = .tStall ↔ s.inp.rst = false ∧ s.busy = true := by
  rw [decode, decodeTop_tsel]
  split_ifs <;> simp_all

theorem decode_tsel_eq_tIdle_iff :
    decode (.top s.tsel) = .tIdle ↔
      s.inp.rst = false ∧ s.busy = false ∧ s.inp.tick = false := by
  rw [decode, decodeTop_tsel]
  split_ifs <;> simp_all

/-! ## Writing both channels -/

/-- After both channels are written, each holds what was written for it. -/
theorem State.setDebs_deb (s : State) (f : BtnIx → Deb) (b : BtnIx) :
    (s.setDebs (f .b0) (f .b1)).deb b = f b := by cases b <;> rfl

/-- Writing both channels changes nothing but the channels. -/
theorem State.setDebs_frame (s : State) (d0 d1 : Deb) : s.SameSurroundings (s.setDebs d0 d1) :=
  ⟨s.setDebs_cfg d0 d1, s.setDebs_target d0 d1, s.setDebs_inp d0 d1, s.setDebs_queue d0 d1,
    s.setDebs_cycle d0 d1⟩

@[simp] theorem State.setDebs_axisOut (s : State) (d0 d1 : Deb) (a : AxisIx) :
    (s.setDebs d0 d1).axisOut a = s.axisOut a := by
  rw [State.axisOut, s.setDebs_cfg, s.setDebs_inp, State.axisOut]

/-! ## What a channel does in `T.STALL` (R86) -/

theorem Deb.stallOp_prev (d : Deb) (below : Nat) : (d.stallOp below).prev = d.prev := by
  obtain ⟨-, hstall⟩ | ⟨-, -, hstall⟩ | ⟨-, -, hstall⟩ := d.stallOp_cases below <;> rw [hstall]

theorem Deb.stallOp_of_idle {d : Deb} (hidle : d.pend = false) (below : Nat) :
    d.stallOp below = d := by
  rw [Deb.stallOp, hidle]
  rfl

theorem Deb.stallOp_of_count {d : Deb} (hpend : d.pend = true) (hcnt : d.cnt ≠ 0) (below : Nat) :
    d.stallOp below = ⟨d.prev, true, d.cnt - 1⟩ := by
  rw [Deb.stallOp, if_pos hpend, if_neg hcnt, Deb.countOp_of_ne_zero hcnt, hpend]

theorem Deb.stallOp_of_zero {d : Deb} (hpend : d.pend = true) (hcnt : d.cnt = 0) (below : Nat) :
    d.stallOp below = ⟨d.prev, false, 0⟩ := by
  rw [Deb.stallOp, if_pos hpend, if_pos hcnt, Deb.deliverOp_eq, hcnt]

/-- `exec_tStall`, read channel by channel. -/
theorem exec_tStall_deb (h : s.cfg.wf = true) :
    ∃ t, exec .tStall s = .next t ∧ (∀ b, t.deb b = (s.deb b).stallOp (s.freeCount b)) ∧
      s.SameSurroundings t :=
  ⟨_, exec_tStall h, s.setDebs_deb fun b => (s.deb b).stallOp (s.freeCount b),
    s.setDebs_frame _ _⟩

/-! ## The step of the ICB, channel by channel (R84) -/

/-- Without a poll an idle channel holds. -/
theorem debStep_of_idle {d : Deb} (hidle : d.pend = false) (n : Nat) (l : Level) :
    debStep n d false false l = d := by
  simp [debStep, hidle]

theorem debStep_of_poll {d : Deb} (hidle : d.pend = false) (n : Nat) (l : Level) :
    debStep n d false true l = d.pollOp n l := by
  simp [debStep, hidle, Deb.pollOp]

/-- In `T.STALL` a channel does what `deb_step` does without a poll. -/
theorem Deb.stallOp_eq_debStep (d : Deb) (below n : Nat) (l : Level) :
    d.stallOp below = debStep n d false false l := by
  obtain ⟨hpend, hstall⟩ | ⟨hpend, hcnt, hstall⟩ | ⟨hpend, hcnt, hstall⟩ := d.stallOp_cases below
  · rw [hstall, debStep_of_idle hpend]
  · simp [hstall, debStep, hpend, hcnt]
  · simp [hstall, debStep, hpend, hcnt]

/-- The next state of button channel `b` in the ICB: `deb_step` with the strobe of R83. -/
def State.debNext (s : State) (b : BtnIx) : Deb :=
  debStep s.cfg.settleCycles (s.deb b) s.inp.rst (s.inp.tick && !s.busy) (s.inp.btn b)

/-- The block-level operation that `tsel` names gives each channel its `deb_step`. -/
theorem exec_decodeTop_tsel (h : s.cfg.wf = true) :
    exec (decodeTop s.tsel) s = .next (s.setDebs (s.debNext .b0) (s.debNext .b1)) := by
  rw [decodeTop_tsel]
  simp only [State.debNext]
  cases s.inp.rst with
  | true => exact exec_tReset h
  | false =>
    cases hbusy : s.busy with
    | true =>
      rw [Bool.not_true, Bool.and_false, ← Deb.stallOp_eq_debStep (s.deb .b0) (s.freeCount .b0),
        ← Deb.stallOp_eq_debStep (s.deb .b1) (s.freeCount .b1)]
      exact exec_tStall h
    | false =>
      have hidle := State.busy_eq_false hbusy
      cases s.inp.tick with
      | true =>
        rw [Bool.not_false, Bool.and_true, debStep_of_poll (hidle .b0), debStep_of_poll (hidle .b1)]
        exact exec_tSample h
      | false =>
        rw [Bool.not_false, Bool.and_true, debStep_of_idle (hidle .b0), debStep_of_idle (hidle .b1)]
        exact exec_tIdle h

/-- The step of the ICB (R84): `deb_step` of both channels at one edge, then the next inputs. -/
theorem step_icb (h : s.cfg.wf = true) (ht : s.target = .icb) :
    step s = .next (s.setDebs (s.debNext .b0) (s.debNext .b1)).advance :=
  step_icb_of_exec h ht (exec_decodeTop_tsel h)

theorem step_icb_deb (h : s.cfg.wf = true) (ht : s.target = .icb) :
    ∃ t, step s = .next t ∧ ∀ b, t.deb b = s.debNext b :=
  ⟨_, step_icb h ht, fun b => by rw [State.advance_deb, State.setDebs_deb]⟩

/-- While `busy` the tick is gated away from both channels (R83). -/
theorem State.debNext_withTick_of_busy (hbusy : s.busy = true) (v : Bool) (b : BtnIx) :
    State.debNext { s with inp := { s.inp with tick := v } } b = s.debNext b := by
  unfold State.debNext
  rw [State.withInp_busy, State.withInp_deb, hbusy, Bool.not_true, Bool.and_false, Bool.and_false]
  cases b <;> rfl

/-! ## Flags (R82) -/

/-- The port `busy` shows the signal `busy`. -/
theorem State.busy_of_outputs {o : Outputs} (ho : s.outputs = some o) : o.busy = s.busy := by
  unfold State.outputs at ho
  split at ho
  · cases ho; rfl
  · cases ho

theorem State.setDebs_busy (s : State) (d0 d1 : Deb) :
    (s.setDebs d0 d1).busy = (d0.pend || d1.pend) := rfl

end Sys2Proof.Machine

open Sys2Proof Sys2Proof.Machine

/-- Settles O36: the signal is defined as the OR, and the port shows the signal. -/
theorem busyIsTheOrOfThePendingBits : Obligations.BusyIsTheOrOfThePendingBits := by
  unfold Obligations.BusyIsTheOrOfThePendingBits
  exact fun s => ⟨s.busy_eq, fun o ho => (State.busy_of_outputs ho).trans s.busy_eq⟩

/-- Settles O37: the strobe `tick AND NOT busy` is the same for both channels, and the step reads
the tick nowhere else. -/
theorem ticksPollBothChannelsOrNone : Obligations.TicksPollBothChannelsOrNone := by
  unfold Obligations.TicksPollBothChannelsOrNone
  intro s hwf hicb hrst
  refine ⟨?polled, ?notPolled, ?dropped⟩
  case polled =>
    exact fun htick hbusy =>
      step_of_accepted_deb hwf hicb (State.accepted_iff.2 ⟨htick, hbusy, hrst⟩)
  case notPolled =>
    intro hno
    have hpoll : (s.inp.tick && !s.busy) = false := by
      obtain htick | hbusy := hno
      · rw [htick, Bool.false_and]
      · rw [hbusy, Bool.not_true, Bool.and_false]
    obtain ⟨t, hstep, hdeb⟩ := step_icb_deb hwf hicb
    refine ⟨t, hstep, fun b => ?_⟩
    rw [hdeb, State.debNext, hrst, hpoll]
    exact ⟨debStep_prev (fun h => Bool.false_ne_true h.2) _ _,
      fun hidle => debStep_of_idle hidle _ _⟩
  case dropped =>
    intro hbusy v
    rw [step_icb (s := { s with inp := { s.inp with tick := v } }) hwf hicb, step_icb hwf hicb,
      State.debNext_withTick_of_busy hbusy v .b0, State.debNext_withTick_of_busy hbusy v .b1]
    rfl

/-- Settles O40: T.RESET writes the reset record over both channels and nothing else; that record is
idle, so neither `busy` nor an event follows. -/
theorem blockResetResetsBothChannels : Obligations.BlockResetResetsBothChannels := by
  unfold Obligations.BlockResetResetsBothChannels
  refine ⟨fun s => decode_tsel_eq_tReset_iff, fun s hwf => ?_⟩
  have hdeb := s.setDebs_deb fun _ => ⟨.released, false, 0⟩
  exact ⟨_, exec_tReset hwf, hdeb, s.setDebs_frame _ _, s.setDebs_busy _ _,
    fun b => by rw [State.event, hdeb]; rfl, s.setDebs_axisOut _ _⟩

/-- Settles O41: each channel stalls by its own record; a settling channel holds `busy` up, also in
the cycle of its event. -/
theorem blockStallCountsOrDelivers : Obligations.BlockStallCountsOrDelivers := by
  unfold Obligations.BlockStallCountsOrDelivers
  refine ⟨fun s => decode_tsel_eq_tStall_iff, ?effect, ?flags⟩
  case effect =>
    intro s hwf
    obtain ⟨t, hexec, hdeb, hsame⟩ := exec_tStall_deb hwf
    refine ⟨t, hexec, fun b => ?_, hsame⟩
    rw [hdeb]
    refine ⟨Deb.stallOp_prev _ _, fun hidle => Deb.stallOp_of_idle hidle _, ?counts, ?delivers⟩
    case counts =>
      intro hpend hcnt
      rw [Deb.stallOp_of_count hpend hcnt]
      exact ⟨rfl, Nat.sub_one_add_one hcnt⟩
    case delivers =>
      intro hpend hcnt
      rw [Deb.stallOp_of_zero hpend hcnt]
      exact ⟨rfl, rfl⟩
  case flags =>
    exact fun s b hpend => ⟨State.busy_of_pend hpend, State.event_iff.trans (and_iff_right hpend)⟩

/-- Settles O43: without reset, settle delay and tick `tsel` is all 0, and both channels write their
own records back. -/
theorem blockIdleKeepsTheState : Obligations.BlockIdleKeepsTheState := by
  unfold Obligations.BlockIdleKeepsTheState
  exact ⟨fun s => decode_tsel_eq_tIdle_iff, fun s hwf => exec_tIdle hwf⟩

end

section
/-! PROOFS. The order of the operations of a clock cycle (60_exceptions.md R97): a delivery that no
reset overrides, and `COND` of an axis beside any other operation. -/

namespace Sys2Proof.Machine

variable {s : State}

/-! ## Both channels deliver -/

/-- Without reset the last clock of a settle delay ends it, whatever the strobe and the level. -/
theorem debStep_of_zero {d : Deb} (hpend : d.pend = true) (hcnt : d.cnt = 0) (n : Nat) (poll : Bool)
    (l : Level) : debStep n d false poll l = ⟨d.prev, false, 0⟩ := by
  simp [debStep, hpend, hcnt]

theorem State.debNext_pend_of_zero {b : BtnIx} (hrst : s.inp.rst = false)
    (hpend : (s.deb b).pend = true) (hcnt : (s.deb b).cnt = 0) : (s.debNext b).pend = false := by
  rw [State.debNext, hrst, debStep_of_zero hpend hcnt]

/-! ## A raw sample beside the other writes -/

theorem State.setRaw_setDeb (s : State) (a : AxisIx) (raw : Raw) (b : BtnIx) (d : Deb) :
    (s.setRaw a raw).setDeb b d = (s.setDeb b d).setRaw a raw := by cases b <;> rfl

theorem State.setRaw_setDebs (s : State) (a : AxisIx) (raw : Raw) (d0 d1 : Deb) :
    (s.setRaw a raw).setDebs d0 d1 = (s.setDebs d0 d1).setRaw a raw := rfl

/-- Samples of different axes stand on different ports. -/
theorem State.setRaw_comm {a a' : AxisIx} (ha : a ≠ a') (s : State) (raw raw' : Raw) :
    (s.setRaw a raw).setRaw a' raw' = (s.setRaw a' raw').setRaw a raw := by
  cases a <;> cases a'
  case a0.a0 | a1.a1 => exact absurd rfl ha
  case a0.a1 | a1.a0 => rfl

/-- No operation writes a parameter (10_state.md R27). -/
theorem exec_next_cfg {i : Instr} {t : State} (h : exec i s = .next t) : t.cfg = s.cfg := by
  cases i with
  | reset b | count b | deliver b | poll b _ | hold b =>
    rw [(perform_next h).2]
    exact s.setDeb_cfg b _
  | cond _ _ | tReset | tStall | tSample | tIdle =>
    rw [(perform_next h).2]
    rfl

/-- An operation other than `COND` of axis `a` neither reads nor writes the sample on `raw[a]`. -/
theorem exec_setRaw (h : s.cfg.wf = true) {a : AxisIx} (raw : Raw) {i : Instr}
    (hi : ∀ raw', i ≠ .cond a raw') :
    ∃ t, exec i s = .next t ∧ exec i (s.setRaw a raw) = .next (t.setRaw a raw) := by
  have h' : (s.setRaw a raw).cfg.wf = true := h
  cases i with
  | cond a' raw' =>
    have ha : a ≠ a' := fun heq => hi raw' (heq ▸ rfl)
    exact ⟨_, exec_cond h a' raw', by rw [exec_cond h', State.setRaw_comm ha]⟩
  | reset b => exact ⟨_, exec_reset h b, by rw [exec_reset h', State.setRaw_setDeb]⟩
  | count b =>
    exact ⟨_, exec_count h b, by rw [exec_count h', State.setRaw_setDeb, State.setRaw_deb]; rfl⟩
  | deliver b =>
    exact ⟨_, exec_deliver h b, by rw [exec_deliver h', State.setRaw_setDeb, State.setRaw_deb]⟩
  | poll b l =>
    exact ⟨_, exec_poll h b l, by
      rw [exec_poll h', State.setRaw_setDeb, State.setRaw_deb, State.setRaw_cfg]⟩
  | hold b => exact ⟨s, exec_hold h b, exec_hold h' b⟩
  | tReset => exact ⟨_, exec_tReset h, exec_tReset h'⟩
  | tStall => exact ⟨_, exec_tStall h, exec_tStall h'⟩
  | tSample =>
    exact ⟨_, exec_tSample h, by
      rw [exec_tSample h', State.setRaw_setDebs, State.setRaw_inp, Inputs.setRaw_btn0,
        Inputs.setRaw_btn1, State.setRaw_deb0, State.setRaw_deb1, State.setRaw_cfg]⟩
  | tIdle => exact ⟨s, exec_tIdle h, exec_tIdle h'⟩

/-- `COND` of an axis and any other operation answer the same in either order. -/
theorem execAll_cond_comm (h : s.cfg.wf = true) {a : AxisIx} (raw : Raw) {i : Instr}
    (hi : ∀ raw', i ≠ .cond a raw') :
    execAll [.cond a raw, i] s = execAll [i, .cond a raw] s := by
  obtain ⟨t, hs, hraw⟩ := exec_setRaw h raw hi
  have ht : t.cfg.wf = true := by rwa [exec_next_cfg hs]
  calc execAll [.cond a raw, i] s
      = execAll [i] (s.setRaw a raw) := execAll_cons_next (exec_cond h a raw)
    _ = execAll [] (t.setRaw a raw) := execAll_cons_next hraw
    _ = execAll [.cond a raw] t := (execAll_cons_next (exec_cond ht a raw)).symm
    _ = execAll [i, .cond a raw] s := (execAll_cons_next hs).symm

end Sys2Proof.Machine

open Sys2Proof Sys2Proof.Machine

/-- Settles O34: the priority is that of the decoder's tests; a step of the ICB gives each channel
its own `deb_step`; and `COND` touches one port that no other operation reads. -/
theorem resetBeatsSettlingBeatsPollBeatsHold :
    Obligations.ResetBeatsSettlingBeatsPollBeatsHold := by
  unfold Obligations.ResetBeatsSettlingBeatsPollBeatsHold
  intro s b
  refine ⟨decode_sel_eq_reset_iff.2, ?settling,
    fun hrst hidle hpoll => decode_sel_eq_poll_iff.2 ⟨hrst, hidle, hpoll, rfl⟩,
    fun hrst hidle hpoll => decode_sel_eq_hold_iff.2 ⟨hrst, hidle, hpoll⟩,
    fun _ hpend hcnt => State.event_iff.2 ⟨hpend, hcnt⟩, ?bothDeliver,
    step_icb_deb, fun hwf a raw i hi => execAll_cond_comm hwf raw hi⟩
  case settling =>
    intro hrst hpend
    split_ifs with hcnt
    · exact decode_sel_eq_deliver_iff.2 ⟨hrst, hpend, hcnt⟩
    · exact decode_sel_eq_count_iff.2 ⟨hrst, hpend, hcnt⟩
  case bothDeliver =>
    intro hwf hicb hrst hlast
    obtain ⟨t, hstep, hdeb⟩ := step_icb_deb hwf hicb
    refine ⟨fun b' => State.event_iff.2 (hlast b'), t, hstep, fun b' => ?_⟩
    obtain ⟨hpend, hcnt⟩ := hlast b'
    rw [hdeb, State.debNext_pend_of_zero hrst hpend hcnt]

end

section
/-! PROOFS. A sampled reset of the block (70_reset_and_hazards.md R107): the next state of the step,
and the axis outputs of the next clock cycle, which follow the samples then on the ports. -/

namespace Sys2Proof.Machine

variable {s : State}

/-- A sampled reset selects `T.RESET`, and the next clock cycle begins with both channels reset. -/
theorem step_icb_of_rst (h : s.cfg.wf = true) (ht : s.target = .icb) (hrst : s.inp.rst = true) :
    step s = .next (s.setDebs ⟨.released, false, 0⟩ ⟨.released, false, 0⟩).advance :=
  have hsel : decodeTop s.tsel = .tReset := decode_tsel_eq_tReset_iff.2 hrst
  step_icb_of_exec h ht (hsel ▸ exec_tReset h)

theorem State.advance_axisOut (s : State) (a : AxisIx) :
    s.advance.axisOut a = condOut (s.cfg.axis a) ((s.inputAt 1).raw a) := by
  rw [State.axisOut, State.advance_cfg, State.advance_inp]

theorem State.advance_busy (s : State) : s.advance.busy = s.busy := by
  rw [State.busy_eq, State.advance_deb0, State.advance_deb1, State.busy_eq]

/-- Writing the channels leaves the coming inputs as they are. -/
theorem State.setDebs_inputAt_succ (s : State) (d0 d1 : Deb) (k : Nat) :
    (s.setDebs d0 d1).inputAt (k + 1) = s.inputAt (k + 1) :=
  State.inputAt_succ_congr (s.setDebs_queue d0 d1) (s.setDebs_cycle d0 d1) k

end Sys2Proof.Machine

open Sys2Proof Sys2Proof.Machine

/-- Settles O44: the step performs `T.RESET`, whose record is idle; the axis outputs are those of the
next inputs, which the write to the channels leaves alone. -/
theorem sampledResetPutsTheBlockIntoItsResetState :
    Obligations.SampledResetPutsTheBlockIntoItsResetState := by
  unfold Obligations.SampledResetPutsTheBlockIntoItsResetState
  intro s hwf hicb hrst
  refine ⟨_, step_icb_of_rst hwf hicb hrst, fun b => ?deb, ?busy, fun a => ?axis⟩
  case deb => rw [State.advance_deb, State.setDebs_deb s fun _ => ⟨.released, false, 0⟩]
  case busy => rw [State.advance_busy, State.setDebs_busy, Bool.or_false]
  case axis => rw [State.advance_axisOut, State.setDebs_cfg, State.setDebs_inputAt_succ]

end

section
/-! PROOFS. A clock cycle as one function of the state, whatever part the inputs drive, and a run as
its iterates (00_scope.md R14): what a step keeps, and the counts along a run one
cycle at a time. -/

namespace Sys2Proof.Machine

variable {s t : State} {b : BtnIx}

/-! ## The next state of a channel -/

/-- The next state of button channel `b`: `deb_step` with the strobe of the part driven, where that
part holds the channel, and the present state where it does not. -/
def State.stepDeb (s : State) (b : BtnIx) : Deb :=
  if s.target = .icb ∨ s.target = .deb b then
    debStep s.cfg.settleCycles (s.deb b) s.inp.rst s.poll (s.inp.btn b)
  else s.deb b

theorem State.stepDeb_of_driven (ht : s.target = .icb ∨ s.target = .deb b) :
    s.stepDeb b = debStep s.cfg.settleCycles (s.deb b) s.inp.rst s.poll (s.inp.btn b) := if_pos ht

theorem State.stepDeb_of_not_driven (ht : ¬ (s.target = .icb ∨ s.target = .deb b)) :
    s.stepDeb b = s.deb b := if_neg ht

theorem State.stepDeb_icb (ht : s.target = .icb) (b : BtnIx) : s.stepDeb b = s.debNext b := by
  rw [State.stepDeb_of_driven (.inl ht), State.poll_icb ht, State.debNext]

/-- What every `deb_step` of a channel keeps, its next state keeps. -/
theorem State.stepDeb_of_debStep {P : Deb → Prop} (hP : P (s.deb b))
    (hstep : ∀ poll, P (debStep s.cfg.settleCycles (s.deb b) s.inp.rst poll (s.inp.btn b))) :
    P (s.stepDeb b) := by
  by_cases ht : s.target = .icb ∨ s.target = .deb b
  · rw [State.stepDeb_of_driven ht]
    exact hstep _
  · rwa [State.stepDeb_of_not_driven ht]

/-! ## The next state of the machine -/

/-- The state in the next clock cycle, of a well-formed configuration. -/
def State.after (s : State) : State := (s.setDebs (s.stepDeb .b0) (s.stepDeb .b1)).advance

@[simp] theorem State.after_cfg (s : State) : s.after.cfg = s.cfg := rfl
@[simp] theorem State.after_target (s : State) : s.after.target = s.target := rfl
@[simp] theorem State.after_deb (s : State) (b : BtnIx) : s.after.deb b = s.stepDeb b := by
  rw [State.after, State.advance_deb, State.setDebs_deb s s.stepDeb]

theorem State.after_deb0 (s : State) : s.after.deb0 = s.stepDeb .b0 := rfl
theorem State.after_deb1 (s : State) : s.after.deb1 = s.stepDeb .b1 := rfl

theorem State.after_inputAt (s : State) (k : Nat) : s.after.inputAt k = s.inputAt (k + 1) := by
  rw [State.after, State.advance_inputAt, State.setDebs_inputAt_succ]

theorem State.after_inp (s : State) : s.after.inp = s.inputAt 1 := s.after_inputAt 0

/-- Writing one channel of the two is writing both, the other with what it holds. -/
theorem State.setDeb_stepDeb (ht : s.target = .deb b) :
    s.setDeb b (debStep s.cfg.settleCycles (s.deb b) s.inp.rst s.poll (s.inp.btn b)) =
      s.setDebs (s.stepDeb .b0) (s.stepDeb .b1) := by
  rw [← State.stepDeb_of_driven (.inr ht)]
  cases b with
  | b0 => rw [State.stepDeb_of_not_driven (b := .b1) (by simp [ht])]; rfl
  | b1 => rw [State.stepDeb_of_not_driven (b := .b0) (by simp [ht])]; rfl

/-- A step of a well-formed configuration answers the next state, whatever part is driven. -/
theorem step_of_wf (h : s.cfg.wf = true) : step s = .next s.after := by
  cases ht : s.target with
  | icb => rw [step_icb h ht, State.after, State.stepDeb_icb ht, State.stepDeb_icb ht]
  | deb b => rw [step_deb_of_exec ht (exec_decode_sel h b), State.setDeb_stepDeb ht, State.after]
  | axc a =>
    have hexec : execAll s.operations s = .next s := by
      rw [operations_axc ht, execAll_cons_next (exec_cond_present h a), execAll]
    rw [step_of_execAll hexec, State.after, State.stepDeb_of_not_driven (by simp [ht]),
      State.stepDeb_of_not_driven (by simp [ht])]
    rfl

theorem exec_of_ill_formed (h : s.cfg.wf = false) (i : Instr) :
    exec i s = .refused .illFormedConfig := by
  cases i <;> exact perform_of_ill_formed h _

/-- Every clock cycle performs some operation. -/
theorem State.operations_eq_cons (s : State) : ∃ i rest, s.operations = i :: rest := by
  unfold State.operations State.words
  cases s.target <;> exact ⟨_, _, rfl⟩

theorem step_of_ill_formed (h : s.cfg.wf = false) : step s = .refused .illFormedConfig := by
  obtain ⟨i, rest, hops⟩ := s.operations_eq_cons
  simp only [step, hops, execAll, exec_of_ill_formed h]

/-- Everything a step can do: answer the next state of a well-formed configuration. -/
theorem step_next (h : step s = .next t) : s.cfg.wf = true ∧ t = s.after := by
  cases hwf : s.cfg.wf with
  | true =>
    rw [step_of_wf hwf] at h
    injection h with h
    exact ⟨rfl, h.symm⟩
  | false =>
    rw [step_of_ill_formed hwf] at h
    cases h

/-! ## Runs -/

/-- A run of a well-formed configuration answers the iterated next state. -/
theorem runFor_of_wf (h : s.cfg.wf = true) (k : Nat) : runFor k s = .next (State.after^[k] s) := by
  induction k generalizing s with
  | zero => rfl
  | succ k ih => rw [runFor_succ (step_of_wf h), ih (s := s.after) h, Function.iterate_succ_apply]

theorem runFor_succ_of_ill_formed (h : s.cfg.wf = false) (k : Nat) :
    runFor (k + 1) s = .refused .illFormedConfig := by
  have hs : Sys2Proof.core.step s = .refused .illFormedConfig := step_of_ill_formed h
  simp only [runFor, Host.Core.run, hs]
  rfl

/-- A run that answers a state has that of the iterated next state, and, where it takes a step, a
well-formed configuration. -/
theorem runFor_next {k : Nat} (h : runFor k s = .next t) :
    (k = 0 ∨ s.cfg.wf = true) ∧ t = State.after^[k] s := by
  cases hwf : s.cfg.wf with
  | true =>
    rw [runFor_of_wf hwf] at h
    injection h with h
    exact ⟨.inr rfl, h.symm⟩
  | false =>
    cases k with
    | zero =>
      injection h with h
      exact ⟨.inl rfl, h.symm⟩
    | succ k =>
      rw [runFor_succ_of_ill_formed hwf] at h
      cases h

@[simp] theorem State.iterate_after_cfg (s : State) (k : Nat) :
    (State.after^[k] s).cfg = s.cfg := by
  induction k with
  | zero => rfl
  | succ k ih => rw [Function.iterate_succ_apply', State.after_cfg, ih]

@[simp] theorem State.iterate_after_target (s : State) (k : Nat) :
    (State.after^[k] s).target = s.target := by
  induction k with
  | zero => rfl
  | succ k ih => rw [Function.iterate_succ_apply', State.after_target, ih]

theorem State.iterate_after_inputAt (s : State) (k j : Nat) :
    (State.after^[k] s).inputAt j = s.inputAt (k + j) := by
  induction k generalizing s with
  | zero => rw [Nat.zero_add]; rfl
  | succ k ih => rw [Function.iterate_succ_apply, ih, State.after_inputAt, Nat.add_right_comm]

theorem State.iterate_after_inp (s : State) (k : Nat) : (State.after^[k] s).inp = s.inputAt k :=
  s.iterate_after_inputAt k 0

/-- In the ICB each channel moves on by `deb_step` with the inputs of its clock cycle. -/
theorem State.iterate_after_deb_succ (ht : s.target = .icb) (k : Nat) (b : BtnIx) :
    (State.after^[k + 1] s).deb b = (State.after^[k] s).debNext b := by
  rw [Function.iterate_succ_apply', State.after_deb,
    State.stepDeb_icb (by rw [State.iterate_after_target, ht])]

/-! ## Counts along a run -/

theorem eventPulses_succ (h : s.cfg.wf = true) (b : BtnIx) (k : Nat) :
    eventPulses b (k + 1) s = (if s.event b then 1 else 0) + eventPulses b k s.after := by
  rw [eventPulses, step_of_wf h]

theorem sampledLevels_succ (h : s.cfg.wf = true) (b : BtnIx) (k : Nat) :
    sampledLevels b (k + 1) s =
      (if s.accepted then [s.inp.btn b] else []) ++ sampledLevels b k s.after := by
  rw [sampledLevels, step_of_wf h]

end Sys2Proof.Machine

end

section
/-! PROOFS. The invariant (10_state.md R21, 42_top_level.md R91): it holds at reset and every step
keeps it, so it holds along every run; the counts keep their width (R18). -/

namespace Sys2Proof.Machine

variable {s t : State} {b : BtnIx} {n : Nat} {d : Deb} {rst poll : Bool} {l : Level}

/-! ## One channel -/

/-- Where a settling channel comes from: its delay went on, or a poll fired. -/
theorem debStep_pend_cases (h : (debStep n d rst poll l).pend = true) :
    rst = false ∧
      ((d.pend = true ∧ d.cnt ≠ 0 ∧ debStep n d rst poll l = ⟨d.prev, true, d.cnt - 1⟩) ∨
        (d.pend = false ∧ poll = true ∧ (l = .pressed ∧ d.prev = .released) ∧
          debStep n d rst poll l = ⟨.pressed, true, n⟩)) := by
  obtain ⟨-, hstep⟩ | ⟨hrst, hpend, hcnt, hstep⟩ | ⟨-, -, -, hstep⟩ | ⟨hrst, hidle, hpoll, hstep⟩ |
    ⟨-, hidle, -, hstep⟩ := debStep_cases n d rst poll l
  · rw [hstep] at h
    cases h
  · exact ⟨hrst, .inl ⟨hpend, hcnt, hstep⟩⟩
  · rw [hstep] at h
    cases h
  · rw [hstep] at h
    exact ⟨hrst, .inr ⟨hidle, hpoll, (d.pollOp_pend_iff n l).1 h,
      hstep.trans (Deb.pollOp_of_fires h n)⟩⟩
  · rw [hstep, hidle] at h
    cases h

theorem Deb.ok_of_idle_zero (prev : Level) (n : Nat) : Deb.Ok n ⟨prev, false, 0⟩ :=
  ⟨fun _ => rfl, Nat.zero_le n, Bool.noConfusion⟩

theorem Deb.pollOp_ok (d : Deb) (n : Nat) (l : Level) : (d.pollOp n l).Ok n := by
  cases hfires : d.fires l with
  | true =>
    rw [Deb.pollOp_of_fires hfires]
    exact ⟨Bool.noConfusion, le_rfl, fun _ => rfl⟩
  | false =>
    rw [Deb.pollOp_of_not_fires hfires]
    exact Deb.ok_of_idle_zero l n

theorem debStep_ok (h : d.Ok n) : (debStep n d rst poll l).Ok n := by
  obtain ⟨hidle, hle, hprev⟩ := h
  obtain ⟨-, hstep⟩ | ⟨-, hpend, -, hstep⟩ | ⟨-, -, -, hstep⟩ | ⟨-, -, -, hstep⟩ |
    ⟨-, -, -, hstep⟩ := debStep_cases n d rst poll l <;> rw [hstep]
  · exact Deb.ok_of_idle_zero .released n
  · exact ⟨Bool.noConfusion, (Nat.sub_le _ _).trans hle, fun _ => hprev hpend⟩
  · exact Deb.ok_of_idle_zero d.prev n
  · exact d.pollOp_ok n l
  · exact ⟨hidle, hle, hprev⟩

/-! ## The whole state -/

theorem State.Inv.deb_ok (h : s.Inv) (b : BtnIx) : (s.deb b).Ok s.cfg.settleCycles := by
  obtain ⟨-, hok0, hok1, -⟩ := h
  cases b
  · exact hok0
  · exact hok1

/-- In the ICB a channel that settles next counts on from its delay, or both channels were idle and
it starts at `SETTLE_CYCLES`. -/
theorem State.debNext_cnt_of_pend (h : (s.debNext b).pend = true) :
    ((s.deb b).pend = true ∧ (s.debNext b).cnt = (s.deb b).cnt - 1) ∨
      (s.busy = false ∧ (s.debNext b).cnt = s.cfg.settleCycles) := by
  obtain ⟨-, ⟨hpend, -, hstep⟩ | ⟨-, hpoll, -, hstep⟩⟩ := debStep_pend_cases h
  · exact .inl ⟨hpend, congrArg Deb.cnt hstep⟩
  · rw [Bool.and_eq_true, Bool.not_eq_true'] at hpoll
    exact .inr ⟨hpoll.2, congrArg Deb.cnt hstep⟩

/-- Two channels that settle next are in step, where two that settle now are (R91). -/
theorem State.debNext_inStep
    (h : s.deb0.pend = true → s.deb1.pend = true → s.deb0.cnt = s.deb1.cnt)
    (h0 : (s.debNext .b0).pend = true) (h1 : (s.debNext .b1).pend = true) :
    (s.debNext .b0).cnt = (s.debNext .b1).cnt := by
  obtain ⟨hpend0, hcnt0⟩ | ⟨hbusy0, hcnt0⟩ := State.debNext_cnt_of_pend h0 <;>
    obtain ⟨hpend1, hcnt1⟩ | ⟨hbusy1, hcnt1⟩ := State.debNext_cnt_of_pend h1 <;> rw [hcnt0, hcnt1]
  · exact congrArg (· - 1) (h hpend0 hpend1)
  · exact absurd (State.busy_of_pend hpend0) (by simp [hbusy1])
  · exact absurd (State.busy_of_pend hpend1) (by simp [hbusy0])

theorem State.Inv.after (h : s.Inv) : s.after.Inv := by
  have hok : ∀ b, (s.stepDeb b).Ok s.cfg.settleCycles := fun b =>
    State.stepDeb_of_debStep (P := Deb.Ok s.cfg.settleCycles) (h.deb_ok b)
      fun _ => debStep_ok (h.deb_ok b)
  obtain ⟨hwf, -, -, hinStep⟩ := h
  refine ⟨hwf, hok .b0, hok .b1, fun hicb => ?_⟩
  rw [State.after_target] at hicb
  rw [State.after_deb0, State.after_deb1, State.stepDeb_icb hicb, State.stepDeb_icb hicb]
  exact State.debNext_inStep (hinStep hicb)

theorem State.resetWith_inv {c : Config} (h : c.wf = true) : (State.resetWith c).Inv :=
  ⟨h, Deb.ok_of_idle_zero _ _, Deb.ok_of_idle_zero _ _, fun _ => Bool.noConfusion⟩

/-- Every state that a run reaches from reset, whatever its inputs are, meets the invariant. -/
theorem inv_of_runFor_resetWith {c : Config} (h : c.wf = true) {i : Inputs} {q : List Inputs}
    {k : Nat} (hrun : runFor k { State.resetWith c with inp := i, queue := q } = .next t) :
    t.Inv ∧ t.cfg = c ∧ t.target = .icb := by
  obtain ⟨-, rfl⟩ := runFor_next hrun
  have hinv : State.Inv { State.resetWith c with inp := i, queue := q } := State.resetWith_inv h
  exact ⟨Function.Iterate.rec State.Inv hinv (fun _ => State.Inv.after) k,
    State.iterate_after_cfg _ k, State.iterate_after_target _ k⟩

/-! ## The width of the counts -/

theorem State.countsFit_iff : s.CountsFit ↔ ∀ b, (s.deb b).cnt < 2 ^ s.cfg.settleW :=
  ⟨fun h b => by cases b; exacts [h.1, h.2], fun h => ⟨h .b0, h .b1⟩⟩

theorem settleCycles_lt {c : Config} (h : c.wf = true) : c.settleCycles < 2 ^ c.settleW := by
  obtain ⟨-, -, -, hle, -⟩ := config_ranges h
  have hpos := Nat.two_pow_pos c.settleW
  omega

theorem State.freeCount_lt (s : State) (b : BtnIx) : s.freeCount b < 2 ^ s.cfg.settleW :=
  Nat.mod_lt _ (Nat.two_pow_pos _)

theorem Deb.countOp_cnt_lt {m below : Nat} (h : d.cnt < m) (hbelow : below < m) :
    (d.countOp below).cnt < m := by
  rw [Deb.countOp]
  split_ifs
  · exact hbelow
  · exact (Nat.sub_le _ _).trans_lt h

theorem Deb.pollOp_cnt_lt {m : Nat} (hn : n < m) : (d.pollOp n l).cnt < m := by
  rw [Deb.pollOp_cnt]
  split_ifs
  · exact hn
  · exact (Nat.zero_le n).trans_lt hn

theorem Deb.stallOp_cnt_le (d : Deb) (below : Nat) : (d.stallOp below).cnt ≤ d.cnt := by
  obtain ⟨-, hstall⟩ | ⟨-, -, hstall⟩ | ⟨-, -, hstall⟩ := d.stallOp_cases below <;> rw [hstall]
  · exact Nat.zero_le _
  · exact Nat.sub_le _ _

theorem State.CountsFit.setDeb (h : s.CountsFit) (hd : d.cnt < 2 ^ s.cfg.settleW) :
    (s.setDeb b d).CountsFit := by
  obtain ⟨h0, h1⟩ := h
  cases b
  · exact ⟨hd, h1⟩
  · exact ⟨h0, hd⟩

theorem exec_countsFit {i : Instr} (h : s.CountsFit) (he : exec i s = .next t) : t.CountsFit := by
  have hwf := exec_next_wf he
  have hcnt := State.countsFit_iff.1 h
  have hsettle := settleCycles_lt hwf
  have hzero := Nat.two_pow_pos s.cfg.settleW
  cases i <;> rw [(perform_next he).2]
  case cond a raw => exact h
  case reset b => exact h.setDeb hzero
  case count b => exact h.setDeb (Deb.countOp_cnt_lt (hcnt b) (s.freeCount_lt b))
  case deliver b => exact h.setDeb (hcnt b)
  case poll b l => exact h.setDeb (Deb.pollOp_cnt_lt hsettle)
  case hold b => exact h.setDeb (hcnt b)
  case tReset => exact ⟨hzero, hzero⟩
  case tStall =>
    exact ⟨(Deb.stallOp_cnt_le _ _).trans_lt h.1, (Deb.stallOp_cnt_le _ _).trans_lt h.2⟩
  case tSample => exact ⟨Deb.pollOp_cnt_lt hsettle, Deb.pollOp_cnt_lt hsettle⟩
  case tIdle => exact h

theorem debStep_cnt_lt {m : Nat} (h : d.cnt < m) (hn : n < m) :
    (debStep n d rst poll l).cnt < m := by
  have hzero : 0 < m := (Nat.zero_le n).trans_lt hn
  obtain ⟨-, hstep⟩ | ⟨-, -, -, hstep⟩ | ⟨-, -, -, hstep⟩ | ⟨-, -, -, hstep⟩ |
    ⟨-, -, -, hstep⟩ := debStep_cases n d rst poll l <;> rw [hstep]
  · exact hzero
  · exact (Nat.sub_le _ _).trans_lt h
  · exact hzero
  · exact Deb.pollOp_cnt_lt hn
  · exact h

theorem State.CountsFit.after (h : s.CountsFit) (hwf : s.cfg.wf = true) : s.after.CountsFit := by
  rw [State.countsFit_iff] at h ⊢
  intro b
  rw [State.after_deb]
  exact State.stepDeb_of_debStep (P := fun d => d.cnt < 2 ^ s.cfg.settleW) (h b)
    fun _ => debStep_cnt_lt (h b) (settleCycles_lt hwf)

end Sys2Proof.Machine

open Sys2Proof Sys2Proof.Machine

/-- Settles O3: a channel's `deb_step` keeps what R21 says of it, and the gated strobe starts the
delays of both channels at one edge or of none. -/
theorem stepKeepsTheInvariant : Obligations.StepKeepsTheInvariant := by
  unfold Obligations.StepKeepsTheInvariant
  intro s t hinv hstep
  rw [(step_next hstep).2]
  exact hinv.after

/-- Settles O2: both channels are idle with count 0 after reset. -/
theorem resetMeetsTheInvariant : Obligations.ResetMeetsTheInvariant := by
  unfold Obligations.ResetMeetsTheInvariant
  exact ⟨fun _ hwf => State.resetWith_inv hwf, State.resetWith_inv (by decide)⟩

/-- Settles O4: the invariant says so of every state that a run reaches from reset. -/
theorem reachableCountsMatchThePhase : Obligations.ReachableCountsMatchThePhase := by
  unfold Obligations.ReachableCountsMatchThePhase
  intro c i q k t hwf hrun b
  obtain ⟨hinv, hcfg, -⟩ := inv_of_runFor_resetWith hwf hrun
  obtain ⟨hidle, hle, -⟩ := hinv.deb_ok b
  exact ⟨hidle, hcfg ▸ hle⟩

/-- Settles O49: an operation lowers a count, clears it, or writes `SETTLE_CYCLES` or a free count,
both of `SETTLE_W` bits; so does `deb_step`. -/
theorem countsKeepTheirWidth : Obligations.CountsKeepTheirWidth := by
  unfold Obligations.CountsKeepTheirWidth
  refine fun s t hfit => ⟨fun i => exec_countsFit hfit, fun hstep => ?_⟩
  obtain ⟨hwf, rfl⟩ := step_next hstep
  exact hfit.after hwf

end

section
/-! PROOFS. Completion, refusal and frame of the operations (00_scope.md R9, 60_exceptions.md R93),
and the step as the operation that a select word names (30_encoding.md section 3). -/

namespace Sys2Proof.Machine

variable {s t : State} {b : BtnIx}

/-! ## Completion and refusal -/

theorem Config.wf_iff (c : Config) :
    c.wf = true ↔
      (∀ a, (c.axis a).center ≤ 4095 ∧ -4095 ≤ (c.axis a).negClamp ∧ (c.axis a).negClamp ≤ 0 ∧
        0 ≤ (c.axis a).posClamp ∧ (c.axis a).posClamp ≤ 4095 ∧ (c.axis a).deadzone ≤ 4095) ∧
      1 ≤ c.settleW ∧ c.settleCycles ≤ 2 ^ c.settleW - 1 ∧ 0 < c.fClk := by
  constructor
  · intro h
    obtain ⟨h0, h1, hw⟩ := config_ranges h
    exact ⟨fun a => by cases a; exacts [axisConfig_ranges h0, axisConfig_ranges h1], hw⟩
  · rintro ⟨haxis, hw⟩
    have h0 := haxis .a0
    have h1 := haxis .a1
    simp only [Config.axis] at h0 h1
    simp [Config.wf, AxisConfig.wf, h0, h1, hw]

theorem State.outputs_of_ill_formed (h : s.cfg.wf = false) : s.outputs = none := by
  rw [State.outputs, h]
  rfl

/-- Every operation of a well-formed configuration answers a next state. -/
theorem exec_completes (h : s.cfg.wf = true) (i : Instr) : ∃ t, exec i s = .next t := by
  cases i <;> exact ⟨_, perform_of_wf h _⟩

/-! ## Frame -/

/-- A write to the samples alone, or to the channels alone: all that an operation does. -/
theorem exec_next_cases {i : Instr} (h : exec i s = .next t) :
    (∃ a raw, i = .cond a raw ∧ t = s.setRaw a raw) ∨
      ((∀ a raw, i ≠ .cond a raw) ∧ ∃ d0 d1, t = s.setDebs d0 d1) := by
  cases i with
  | cond a raw => exact .inl ⟨a, raw, rfl, (perform_next h).2⟩
  | reset b | count b | deliver b | poll b _ | hold b =>
    refine .inr ⟨fun _ _ => Instr.noConfusion, ?_⟩
    rw [(perform_next h).2]
    cases b <;> exact ⟨_, _, rfl⟩
  | tReset | tStall | tSample | tIdle =>
    exact .inr ⟨fun _ _ => Instr.noConfusion, _, _, (perform_next h).2⟩

/-- No operation writes the inputs to come or the cycle number, so the next cycle begins as it would
have without it. -/
theorem advance_of_exec {i : Instr} (h : exec i s = .next t) :
    t.advance = { t with inp := s.inputAt 1, queue := s.queue.tail, cycle := s.cycle + 1 } := by
  obtain ⟨a, raw, -, rfl⟩ | ⟨-, d0, d1, rfl⟩ := exec_next_cases h <;> rfl

/-! ## The step of a select word -/

/-- The step of `s` performs the operation `i`, and then the next inputs are on the ports. -/
def StepRuns (s : State) (i : Instr) : Prop :=
  ∃ t, exec i s = .next t ∧
    step s = .next { t with inp := s.inputAt 1, queue := s.queue.tail, cycle := s.cycle + 1 }

theorem stepRuns_of_exec {i : Instr} (he : exec i s = .next t) (hstep : step s = .next t.advance) :
    StepRuns s i :=
  ⟨t, he, by rw [hstep, advance_of_exec he]⟩

theorem stepRuns_tsel (h : s.cfg.wf = true) (ht : s.target = .icb) :
    StepRuns s (decode (.top s.tsel)) := by
  obtain ⟨t, hexec⟩ := exec_completes h (decode (.top s.tsel))
  exact stepRuns_of_exec hexec (step_icb_of_exec h ht hexec)

theorem stepRuns_sel (h : s.cfg.wf = true) (ht : s.target = .deb b) :
    StepRuns s (decode (.deb b (s.sel b))) := by
  obtain ⟨t, hexec⟩ := exec_completes h (decode (.deb b (s.sel b)))
  exact stepRuns_of_exec hexec (step_deb_of_exec ht hexec)

theorem stepRuns_raw {a : AxisIx} (h : s.cfg.wf = true) (ht : s.target = .axc a) :
    StepRuns s (decode (.axc a (s.inp.raw a))) := by
  have hexec := exec_cond_present h a
  refine stepRuns_of_exec hexec (step_of_execAll ?_)
  rw [operations_axc ht, execAll_cons_next hexec, execAll]

end Sys2Proof.Machine

open Sys2Proof Sys2Proof.Machine

/-- Settles O5: the check is the conjunction of the ranges, and every operation, hence every step,
makes it first. -/
theorem illFormedConfigurationIsRefused : Obligations.IllFormedConfigurationIsRefused := by
  unfold Obligations.IllFormedConfigurationIsRefused
  exact ⟨Config.wf_iff, fun _ hill =>
    ⟨exec_of_ill_formed hill, step_of_ill_formed hill, State.outputs_of_ill_formed hill⟩⟩

/-- Settles O6: the check of the configuration is all that can stop an operation. -/
theorem everyOperationAndStepCompletes : Obligations.EveryOperationAndStepCompletes := by
  unfold Obligations.EveryOperationAndStepCompletes
  exact fun _ hwf => ⟨exec_completes hwf, ⟨_, step_of_wf hwf⟩, ⟨_, State.outputs_of_wf hwf⟩⟩

/-- Settles O7: COND writes one sample and no channel, every other operation writes channels and no
sample, and the next inputs replace neither the constants nor the part driven. -/
theorem operationsKeepTheInstanceAndTheClockedInputs :
    Obligations.OperationsKeepTheInstanceAndTheClockedInputs := by
  unfold Obligations.OperationsKeepTheInstanceAndTheClockedInputs
  refine ⟨fun i s t hexec => ?operation, fun s t hstep => ?step⟩
  case operation =>
    obtain ⟨a, raw, rfl, rfl⟩ | ⟨hi, d0, d1, rfl⟩ := exec_next_cases hexec
    · exact ⟨rfl, rfl, rfl, rfl, s.inp.setRaw_rst a raw, s.inp.setRaw_tick a raw,
        s.inp.setRaw_btn a raw, fun _ => s.setRaw_deb a raw, fun hi => absurd rfl (hi a raw)⟩
    · exact ⟨rfl, rfl, rfl, rfl, rfl, rfl, fun _ => rfl,
        fun ⟨a, raw, hcond⟩ => absurd hcond (hi a raw),
        fun _ a => ⟨rfl, s.setDebs_axisOut d0 d1 a⟩⟩
  case step =>
    rw [(step_next hstep).2]
    exact ⟨s.after_cfg, s.after_target⟩

/-- Settles O13: conditioning the samples on the ports changes nothing, so the one other word of the
clock cycle decides the step. -/
theorem stepRunsTheSelectedOperation : Obligations.StepRunsTheSelectedOperation := by
  unfold Obligations.StepRunsTheSelectedOperation
  exact fun _ hwf => ⟨fun hicb => ⟨exec_cond_present hwf, stepRuns_tsel hwf hicb⟩,
    fun _ hdeb => stepRuns_sel hwf hdeb, fun _ haxc => stepRuns_raw hwf haxc⟩

end

section
/-! PROOFS. The select words (30_encoding.md section 3): the tables against the decoder, the encoder
against the decoder, and a word brought about as the word of a clock cycle. -/

namespace Sys2Proof.Machine

variable {s : State} {b : BtnIx}

/-! ## Tables and encoder -/

/-- The rows of a DEB's table that its `sel` matches (R50), read off each of the 32 words. -/
theorem opRows_deb_selectedBy (b : BtnIx) (sel : BitVec 5) :
    ((opRows (.deb b)).filter fun r => r.selectedBy sel.toNat).map OpRow.op =
      [(decodeDeb b sel).op] := by
  revert sel
  cases b <;> decide

/-- The rows of the block's table that `tsel` matches (R51), read off each of the 8 words. -/
theorem opRows_top_selectedBy (tsel : BitVec 3) :
    ((opRows .top).filter fun r => r.selectedBy tsel.toNat).map OpRow.op =
      [(decodeTop tsel).op] := by
  revert tsel
  decide

/-- Filled with its own bits, the encoding of what a `sel` selects is that `sel`. -/
theorem encodeWith_decodeDeb (b : BtnIx) (sel : BitVec 5) :
    encodeWith (decodeDeb b sel) sel = .deb b sel := by
  revert sel
  cases b <;> decide

theorem encodeWith_decodeTop (tsel : BitVec 3) :
    encodeWith (decodeTop tsel) (tsel.setWidth 5) = .top tsel := by
  revert tsel
  decide

/-! ## A word brought about -/

@[simp] theorem State.present_cfg (s : State) (w : SelWord) : (s.present w).cfg = s.cfg := by
  cases w with
  | axc a raw => rfl
  | deb b sel => exact s.setDeb_cfg b _
  | top tsel => exact s.forceBusy_cfg _

@[simp] theorem State.present_queue (s : State) (w : SelWord) : (s.present w).queue = s.queue := by
  cases w with
  | axc a raw => rfl
  | deb b sel => exact s.setDeb_queue b _
  | top tsel => exact s.forceBusy_queue _

@[simp] theorem State.present_cycle (s : State) (w : SelWord) : (s.present w).cycle = s.cycle := by
  cases w with
  | axc a raw => rfl
  | deb b sel => exact s.setDeb_cycle b _
  | top tsel => exact s.forceBusy_cycle _

theorem State.present_deb_deb (s : State) (b : BtnIx) (sel : BitVec 5) :
    (s.present (.deb b sel)).deb b =
      Deb.forceZero { s.deb b with pend := sel.getLsbD 3 } (sel.getLsbD 2) := by
  cases b <;> rfl

/-- The word of channel `b` is the word that was brought about. -/
theorem State.present_deb_sel (s : State) (b : BtnIx) (sel : BitVec 5) :
    (s.present (.deb b sel)).sel b = sel := by
  apply BitVec.eq_of_getLsbD_eq
  intro j hj
  match j, hj with
  | 0, _ =>
    have hlevel : (s.present (.deb b sel)).inp.btn b = Level.ofBit (sel.getLsbD 0) := by
      cases b <;> rfl
    rw [State.sel_level, hlevel, bit_ofBit]
  | 1, _ => rw [State.sel_poll]; rfl
  | 2, _ => rw [State.sel_zero, State.present_deb_deb, Deb.forceZero_zero]
  | 3, _ => rw [State.sel_pend, State.present_deb_deb, Deb.forceZero_pend]
  | 4, _ => rw [State.sel_rst]; rfl

theorem State.present_top_busy (s : State) (tsel : BitVec 3) :
    (s.present (.top tsel)).busy = tsel.getLsbD 1 := s.forceBusy_busy _

/-- The word of the block is the word that was brought about. -/
theorem State.present_top_tsel (s : State) (tsel : BitVec 3) :
    (s.present (.top tsel)).tsel = tsel := by
  apply BitVec.eq_of_getLsbD_eq
  intro j hj
  match j, hj with
  | 0, _ => rw [State.tsel_tick]; rfl
  | 1, _ => rw [State.tsel_busy, State.present_top_busy]
  | 2, _ => rw [State.tsel_rst]; rfl

/-- The next step runs the word brought about. -/
theorem stepRuns_present (h : s.cfg.wf = true) (w : SelWord) :
    StepRuns (s.present w) (decode w) := by
  have hwf : (s.present w).cfg.wf = true := by rwa [State.present_cfg]
  cases w with
  | axc a raw =>
    have hraw : (s.present (.axc a raw)).inp.raw a = raw := Inputs.setRaw_raw_same _ a raw
    simpa only [hraw] using stepRuns_raw (a := a) hwf rfl
  | deb b sel => simpa only [State.present_deb_sel] using stepRuns_sel (b := b) hwf rfl
  | top tsel => simpa only [State.present_top_tsel] using stepRuns_tsel hwf rfl

/-- A table word that the decoder reads stands for one select word, which is the one placed. -/
theorem decodeTableWord_eq_some {nbits w : Nat} {i : Instr} (h : decodeTableWord nbits w = some i) :
    ∃ word, i = decode word ∧ ∀ s : State, s.withFetchWord nbits w = s.present word := by
  unfold decodeTableWord at h
  split at h
  · next word hword =>
    injection h with h
    exact ⟨word, h.symm, fun s => by simp only [State.withFetchWord, hword]⟩
  · cases h

end Sys2Proof.Machine

open Sys2Proof Sys2Proof.Machine

/-- Settles O8: an AXC's only row asks nothing of the word; the other tables are read off word by
word. -/
theorem everySelectWordMatchesExactlyOneRow : Obligations.EverySelectWordMatchesExactlyOneRow := by
  unfold Obligations.EverySelectWordMatchesExactlyOneRow
  intro w
  cases w with
  | axc a raw => simp [opRows, SelWord.format, OpRow.selectedBy, decode, Instr.op]
  | deb b sel => exact opRows_deb_selectedBy b sel
  | top tsel => exact opRows_top_selectedBy tsel

/-- Settles O9, by the round trip of each operation. -/
theorem decodeOfEncodeIsTheOperation : Obligations.DecodeOfEncodeIsTheOperation := by
  unfold Obligations.DecodeOfEncodeIsTheOperation
  intro i
  cases i with
  | cond a raw => exact Laws.RoundTrip.cond a raw
  | reset b => exact Laws.RoundTrip.reset b
  | count b => exact Laws.RoundTrip.count b
  | deliver b => exact Laws.RoundTrip.deliver b
  | poll b level => exact Laws.RoundTrip.poll b level
  | hold b => exact Laws.RoundTrip.hold b
  | tReset => exact Laws.RoundTrip.tReset
  | tStall => exact Laws.RoundTrip.tStall
  | tSample => exact Laws.RoundTrip.tSample
  | tIdle => exact Laws.RoundTrip.tIdle

/-- Settles O10: the unread bits are taken from the word itself. -/
theorem everySelectWordEncodesItsOperation : Obligations.EverySelectWordEncodesItsOperation := by
  unfold Obligations.EverySelectWordEncodesItsOperation
  intro w
  cases w with
  | axc a raw => exact ⟨0, rfl⟩
  | deb b sel => exact ⟨sel, encodeWith_decodeDeb b sel⟩
  | top tsel => exact ⟨tsel.setWidth 5, encodeWith_decodeTop tsel⟩

/-- Settles O11: eleven closed words. -/
theorem writtenOutWordsDecode : Obligations.WrittenOutWordsDecode := by
  unfold Obligations.WrittenOutWordsDecode
  decide

/-- Settles O14: the word read from the table is assembled again from the state in which it was
placed, and placing it writes neither the constants nor the inputs to come. -/
theorem placedTableWordIsRunByTheNextStep : Obligations.PlacedTableWordIsRunByTheNextStep := by
  unfold Obligations.PlacedTableWordIsRunByTheNextStep
  intro s nbits w i hwf hdecode
  obtain ⟨word, rfl, hfetch⟩ := decodeTableWord_eq_some hdecode
  have hqueue := s.present_queue word
  have hcycle := s.present_cycle word
  rw [hfetch, ← State.inputAt_succ_congr hqueue hcycle, ← hqueue, ← hcycle]
  exact ⟨s.present_cfg word, rfl, rfl, stepRuns_present hwf word⟩

end

section
/-! PROOFS. Laws of the axis conditioner as a whole (40_axis_conditioner.md R62 to R65, 00_scope.md
R10): the 13-bit path against the integer formula, the order of the clamps, the centre, monotony,
and clamps beyond the bound. -/

namespace Sys2Proof.Machine

variable {c : AxisConfig}

/-! ## The 13-bit clamp (R58, R63) -/

/-- One signed comparison with an upper bound takes the smaller reading. -/
theorem sval_upperBound (bound v : Adj) :
    sval (if bound.slt v then bound else v) = min (sval bound) (sval v) := by
  simp only [adj_slt_iff]
  split_ifs <;> omega

/-- One signed comparison with a lower bound takes the larger reading. -/
theorem sval_lowerBound (bound v : Adj) :
    sval (if v.slt bound then bound else v) = max (sval bound) (sval v) := by
  simp only [adj_slt_iff]
  split_ifs <;> omega

theorem sval_pathClamp (h : c.wf = true) (v : Adj) :
    sval (pathClamp c v) = axisClamp c (sval v) := by
  obtain ⟨hneg, hpos⟩ := sval_clampOperands h
  rw [pathClamp, sval_lowerBound, sval_upperBound, hneg, hpos, axisClamp]

theorem sval_pathClampLowerFirst (h : c.wf = true) (v : Adj) :
    sval (pathClampLowerFirst c v) = axisClamp c (sval v) := by
  obtain ⟨hneg, hpos⟩ := sval_clampOperands h
  rw [pathClampLowerFirst, sval_upperBound, sval_lowerBound, hneg, hpos,
    axisClamp_eq_lowerFirst (negClamp_le_posClamp h)]

/-! ## The whole 13-bit path (R62) -/

theorem deadzoneOperand_toNat (h : c.wf = true) : (deadzoneOperand c).toNat = c.deadzone := by
  have hr := axisConfig_ranges h
  rw [deadzoneOperand, u12, BitVec.toNat_ofNat, Nat.mod_eq_of_lt (by omega)]

theorem pathClamp_pathDelta (h : c.wf = true) (raw : Raw) :
    pathClamp c (pathDelta c raw) = (condOut c raw).adj :=
  adj_ext (by rw [sval_pathClamp h, sval_pathDelta h, sval_condOut_adj h, axisAdj])

/-- The unsigned 12-bit comparison of stage 3 is that of the magnitudes. -/
theorem magnitude_ule_deadzone (h : c.wf = true) (raw : Raw) :
    (magnitude (condOut c raw).adj).ule (deadzoneOperand c) = (condOut c raw).atrest := by
  have hread := sval_condOut_adj h raw
  have hmag := natAbs_axisAdj_le h raw
  rw [Bool.eq_iff_iff, BitVec.ule_iff_toNat_le, magnitude_toNat (by omega), hread,
    deadzoneOperand_toNat h, condOut_atrest_iff]

theorem pathOut_eq_condOut (h : c.wf = true) (raw : Raw) : pathOut c raw = condOut c raw := by
  rw [pathOut, pathClamp_pathDelta h, magnitude_ule_deadzone h]
  cases hrest : (condOut c raw).atrest with
  | true =>
    rw [if_pos rfl, ← condOut_filt_of_atrest hrest, ← hrest]
  | false =>
    rw [if_neg Bool.false_ne_true, ← hrest]
    congr 1
    exact (condOut_filt_of_not_atrest hrest).symm

/-- The filtered value is 0 or the clamped value. -/
theorem axisFilt_eq_zero_or (c : AxisConfig) (raw : Raw) :
    axisFilt c raw = 0 ∨ axisFilt c raw = axisAdj c raw := by
  rw [axisFilt_eq]
  exact ite_eq_or_eq _ _ _

theorem natAbs_axisFilt_le (h : c.wf = true) (raw : Raw) : (axisFilt c raw).natAbs ≤ 4095 := by
  obtain hfilt | hfilt := axisFilt_eq_zero_or c raw <;> rw [hfilt]
  · exact Nat.zero_le _
  · exact natAbs_axisAdj_le h raw

theorem sval_condOut_filt (h : c.wf = true) (raw : Raw) :
    sval (condOut c raw).filt = axisFilt c raw := by
  have hmag := natAbs_axisFilt_le h raw
  rw [condOut_filt, sval_s13 (by omega) (by omega)]

/-- The pattern `0x1000` reads as -4096, which needs a larger magnitude than the path has. -/
theorem ne_pattern_of_natAbs_le {v : Adj} (h : (sval v).natAbs ≤ 4095) : v ≠ 0x1000#13 := by
  rintro rfl
  exact absurd h (by decide)

/-! ## The centre (R64) -/

theorem axisAdj_at_center (h : c.wf = true) {raw : Raw} (hraw : raw.toNat = c.center) :
    axisAdj c raw = 0 := by
  have hr := axisConfig_ranges h
  rw [axisAdj_eq, hraw]
  omega

theorem axisFilt_of_axisAdj_zero {raw : Raw} (hadj : axisAdj c raw = 0) : axisFilt c raw = 0 := by
  rw [axisFilt_eq, hadj, ite_self]

/-! ## Monotony (R65) -/

theorem axisAdj_mono {r r' : Raw} (h : r.toNat ≤ r'.toNat) : axisAdj c r ≤ axisAdj c r' := by
  rw [axisAdj_eq, axisAdj_eq]
  omega

/-- Setting to 0 the values around 0 keeps their order. -/
theorem axisFilt_mono {r r' : Raw} (h : r.toNat ≤ r'.toNat) : axisFilt c r ≤ axisFilt c r' := by
  have hadj := axisAdj_mono (c := c) h
  rw [axisFilt_eq, axisFilt_eq]
  split_ifs <;> omega

/-- The samples at rest: those within the deadzone, up to the end of the range on a side whose clamp
the deadzone covers. -/
theorem condOut_atrest_iff_samples (h : c.wf = true) (raw : Raw) :
    (condOut c raw).atrest = true ↔
      ((c.center : Int) - c.deadzone ≤ raw.toNat ∨ -c.negClamp ≤ c.deadzone) ∧
      ((raw.toNat : Int) ≤ c.center + c.deadzone ∨ c.posClamp ≤ c.deadzone) := by
  have hr := axisConfig_ranges h
  rw [condOut_atrest_iff, axisAdj_eq]
  omega

/-! ## Clamps beyond the bound (R10) -/

/-- The outputs depend on the clamps only through the clamped value. -/
theorem condOut_congr {c' : AxisConfig} {raw : Raw} (hadj : axisAdj c raw = axisAdj c' raw)
    (hdz : c.deadzone = c'.deadzone) : condOut c raw = condOut c' raw := by
  have hrest : atRest c (axisAdj c raw) = atRest c' (axisAdj c' raw) := by
    rw [atRest, atRest, hadj, hdz]
  rw [condOut, condOut, axisFilt, axisFilt, hrest, hadj]

/-- No difference from a centre in range reaches a bound beyond 4095. -/
theorem axisAdj_saturated (hcenter : c.center ≤ 4095) (hneg : c.negClamp ≤ 0)
    (hpos : 0 ≤ c.posClamp) (raw : Raw) :
    axisAdj c raw =
      axisAdj { c with
        negClamp := max c.negClamp (-4095), posClamp := min c.posClamp 4095 } raw := by
  have hraw := raw.isLt
  simp only [axisAdj_eq]
  omega

end Sys2Proof.Machine

open Sys2Proof Sys2Proof.Machine

/-- Settles O20: each stage of the path reads as the integer value, whose magnitude needs 12
bits. -/
theorem thirteenBitPathEqualsTheIntegerFormula :
    Obligations.ThirteenBitPathEqualsTheIntegerFormula := by
  unfold Obligations.ThirteenBitPathEqualsTheIntegerFormula
  intro c raw hwf
  have hr := axisConfig_ranges hwf
  have hlo := neg_center_le_axisDelta c raw
  have hhi := axisDelta_le c raw
  have hmag := natAbs_axisAdj_le hwf raw
  have hadj := sval_condOut_adj hwf raw
  have hfilt := sval_condOut_filt hwf raw
  refine ⟨⟨by omega, by omega⟩, axisAdj_bounds hwf raw, ⟨by omega, by omega, hmag⟩, ⟨hadj, hfilt⟩,
    sval_pathDelta hwf raw, pathOut_eq_condOut hwf raw, ?adj, ?filt⟩
  case adj => exact ne_pattern_of_natAbs_le (hadj ▸ hmag)
  case filt => exact ne_pattern_of_natAbs_le (hfilt ▸ natAbs_axisFilt_le hwf raw)

/-- Settles O21: of two bounds in order at most one acts, so either may be compared first, also in
13 bits, where each comparison takes the smaller or the larger reading. -/
theorem clampOrderDoesNotMatter : Obligations.ClampOrderDoesNotMatter := by
  unfold Obligations.ClampOrderDoesNotMatter
  refine ⟨fun c d hc => ⟨axisClamp_eq_lowerFirst hc d, axisClamp_of_lt hc, axisClamp_of_between,
    axisClamp_of_gt hc⟩, fun c v hwf => ⟨sval_pathClamp hwf v, adj_ext ?_⟩⟩
  rw [sval_pathClampLowerFirst hwf, sval_pathClamp hwf]

/-- Settles O22: the difference is 0, between the clamps, and within every deadzone. -/
theorem centreMapsToZeroAtRest : Obligations.CentreMapsToZeroAtRest := by
  unfold Obligations.CentreMapsToZeroAtRest
  intro c raw hwf hraw
  have hadj := axisAdj_at_center hwf hraw
  have hfilt := axisFilt_of_axisAdj_zero hadj
  refine ⟨by rw [axisDelta_eq, hraw, sub_self], hadj, hfilt, ?_⟩
  rw [condOut, hadj, hfilt, (atRest_iff c 0).2 (Nat.zero_le _)]
  rfl

/-- Settles O23: the clamped value is flat, rises by one per step, and is flat again; its magnitude
is compared with the deadzone. -/
theorem adjustedValueIsMonotone : Obligations.AdjustedValueIsMonotone := by
  unfold Obligations.AdjustedValueIsMonotone
  intro c hwf
  have hc := negClamp_le_posClamp hwf
  refine ⟨fun r r' h => ⟨axisAdj_mono h, axisFilt_mono h⟩, ?low, ?rising, ?high,
    condOut_atrest_iff_samples hwf⟩
  case low =>
    intro r hr
    rw [axisAdj_eq]
    omega
  case rising =>
    intro r r' hsucc hlo hhi
    rw [axisAdj_eq, axisAdj_eq]
    omega
  case high =>
    intro r hr
    rw [axisAdj_eq]
    omega

/-- Settles O24: both clamps give the same clamped value, and the outputs read no more of them. -/
theorem saturatingTheClampsLosesNothing : Obligations.SaturatingTheClampsLosesNothing := by
  unfold Obligations.SaturatingTheClampsLosesNothing
  exact fun _ raw hcenter hneg hpos => condOut_congr (axisAdj_saturated hcenter hneg hpos raw) rfl

end

section
/-! PROOFS. A button channel on its own and inside the block (41_button_debouncer.md R69 to R73,
42_top_level.md R84 and R87): COUNT at 0, DELIVER, the lone channel, and the block-level operation
as the operations of both channels. -/

namespace Sys2Proof.Machine

variable {s t : State} {b : BtnIx} {n : Nat} {d : Deb} {rst poll : Bool} {l : Level}

/-! ## Flags -/

theorem State.busy_iff : s.busy = true ↔ ∃ b, (s.deb b).pend = true := by
  refine ⟨fun h => ?_, fun ⟨_, hpend⟩ => State.busy_of_pend hpend⟩
  rw [State.busy_eq, Bool.or_eq_true] at h
  obtain h0 | h1 := h
  · exact ⟨.b0, h0⟩
  · exact ⟨.b1, h1⟩

theorem State.busy_eq_false_iff : s.busy = false ↔ ∀ b, (s.deb b).pend = false := by
  rw [← Bool.not_eq_true, State.busy_iff, not_exists]
  exact forall_congr' fun b => Bool.not_eq_true _ |>.to_iff

theorem State.event_of_idle (h : (s.deb b).pend = false) : s.event b = false := by
  rw [State.event, Deb.event, h, Bool.false_and]

/-! ## A channel used alone -/

theorem State.poll_deb (ht : s.target = .deb b) : s.poll = s.inp.tick := by
  simp only [State.poll, ht]

theorem State.stepDeb_deb (ht : s.target = .deb b) :
    s.stepDeb b = debStep s.cfg.settleCycles (s.deb b) s.inp.rst s.inp.tick (s.inp.btn b) := by
  rw [State.stepDeb_of_driven (.inr ht), State.poll_deb ht]

/-- During its delay a channel reads neither the strobe nor the level. -/
theorem debStep_congr_of_pend (h : d.pend = true) (n : Nat) (rst poll poll' : Bool) (l l' : Level) :
    debStep n d rst poll l = debStep n d rst poll' l' := by
  simp [debStep, h]

theorem State.stepDeb_deb_of_pend (ht : s.target = .deb b) (hpend : (s.deb b).pend = true)
    {i : Inputs} (hrst : i.rst = s.inp.rst) :
    State.stepDeb { s with inp := i } b = s.stepDeb b := by
  rw [State.stepDeb_deb (s := { s with inp := i }) ht, State.stepDeb_deb ht, State.withInp_deb,
    hrst]
  exact debStep_congr_of_pend hpend _ _ _ _ _ _

/-! ## Both channels in one clock cycle -/

/-- The operation that channel `b` selects in `s` writes the same record in any state that agrees
with `s` on that channel and on the constants. -/
theorem exec_decode_sel_of_same_deb {u : State} (h : s.cfg.wf = true) (hcfg : u.cfg = s.cfg)
    (hdeb : u.deb b = s.deb b) :
    exec (decode (.deb b (s.sel b))) u =
      .next (u.setDeb b
        (debStep s.cfg.settleCycles (s.deb b) s.inp.rst s.poll (s.inp.btn b))) := by
  have hu : u.cfg.wf = true := by rwa [hcfg]
  obtain ⟨hrst, hstep⟩ | ⟨hrst, hpend, hcnt, hstep⟩ | ⟨hrst, hpend, hcnt, hstep⟩ |
    ⟨hrst, hpend, hpoll, hstep⟩ | ⟨hrst, hpend, hpoll, hstep⟩ :=
    debStep_cases s.cfg.settleCycles (s.deb b) s.inp.rst s.poll (s.inp.btn b) <;> rw [hstep]
  · rw [decode_sel_eq_reset_iff.2 hrst, exec_reset hu]
  · rw [decode_sel_eq_count_iff.2 ⟨hrst, hpend, hcnt⟩, exec_count_of_ne_zero hu (hdeb ▸ hcnt),
      hdeb, hpend]
  · rw [decode_sel_eq_deliver_iff.2 ⟨hrst, hpend, hcnt⟩, exec_deliver hu, hdeb, hcnt]
  · rw [decode_sel_eq_poll_iff.2 ⟨hrst, hpend, hpoll, rfl⟩, exec_poll hu, hdeb, hcfg]
  · rw [decode_sel_eq_hold_iff.2 ⟨hrst, hpend, hpoll⟩, exec_hold hu, ← hdeb, State.setDeb_self]

/-- In the ICB the operations that the two channels select, one after the other, write each
channel's own next state. -/
theorem execAll_decode_sel (h : s.cfg.wf = true) (ht : s.target = .icb) {b b' : BtnIx}
    (hb : b' ≠ b) :
    execAll [decode (.deb b (s.sel b)), decode (.deb b' (s.sel b'))] s =
      .next ((s.setDeb b (s.debNext b)).setDeb b' (s.debNext b')) := by
  have hother := s.setDeb_deb_other b b' (s.debNext b) hb
  rw [execAll_cons_next (exec_decode_sel h b), State.poll_icb ht, ← State.debNext,
    execAll_cons_next (exec_decode_sel_of_same_deb h (s.setDeb_cfg b _) hother),
    State.poll_icb ht, ← State.debNext, execAll]

/-! ## T.SAMPLE (R87) -/

theorem decode_tsel_eq_tSample_iff :
    decode (.top s.tsel) = .tSample ↔
      s.inp.rst = false ∧ s.busy = false ∧ s.inp.tick = true := by
  rw [decode, decodeTop_tsel]
  split_ifs <;> simp_all

/-- `exec_tSample`, read channel by channel. -/
theorem exec_tSample_deb (h : s.cfg.wf = true) :
    ∃ t, exec .tSample s = .next t ∧
      (∀ b, t.deb b = (s.deb b).pollOp s.cfg.settleCycles (s.inp.btn b)) ∧ s.SameSurroundings t :=
  ⟨_, exec_tSample h, s.setDebs_deb fun b => (s.deb b).pollOp s.cfg.settleCycles (s.inp.btn b),
    s.setDebs_frame _ _⟩

/-- A level that is already `prev` does not fire. -/
theorem Deb.pollOp_of_sampled (n : Nat) (l : Level) :
    Deb.pollOp ⟨l, false, 0⟩ n l = ⟨l, false, 0⟩ := by
  cases l <;> rfl

/-- A poll that does not fire leaves its channel idle with the level sampled. -/
theorem Deb.pollOp_of_idle (h : (d.pollOp n l).pend = false) : d.pollOp n l = ⟨l, false, 0⟩ :=
  Deb.pollOp_of_not_fires h n

/-- Where both channels are idle with the present levels sampled, another sample of them changes
nothing. -/
theorem exec_tSample_of_sampled (h : s.cfg.wf = true)
    (hdeb : ∀ b, s.deb b = ⟨s.inp.btn b, false, 0⟩) : exec .tSample s = .next s := by
  have hpoll : ∀ b, (s.deb b).pollOp s.cfg.settleCycles (s.inp.btn b) = s.deb b := fun b => by
    rw [hdeb, Deb.pollOp_of_sampled]
  have h0 := hpoll .b0
  have h1 := hpoll .b1
  rw [State.deb_b0, Inputs.btn_b0] at h0
  rw [State.deb_b1, Inputs.btn_b1] at h1
  rw [exec_tSample h, h0, h1, State.setDebs_self]

end Sys2Proof.Machine

open Sys2Proof Sys2Proof.Machine

/-- Settles O29: COUNT writes the count alone, and at 0 the free value, which is reduced to
`SETTLE_W` bits. -/
theorem countBelowZeroIsAFreeCount : Obligations.CountBelowZeroIsAFreeCount := by
  unfold Obligations.CountBelowZeroIsAFreeCount
  intro s b hwf hcnt
  obtain ⟨hsame, hother⟩ := s.setDeb_frame b ((s.deb b).countOp (s.freeCount b))
  have hdeb := s.setDeb_deb_same b ((s.deb b).countOp (s.freeCount b))
  refine ⟨_, exec_count hwf b, ?width, by rw [hdeb]; rfl, by rw [hdeb]; rfl, hsame, hother⟩
  case width =>
    rw [hdeb]
    exact Deb.countOp_cnt_lt (hcnt ▸ Nat.two_pow_pos _) (s.freeCount_lt b)

/-- Settles O30: DELIVER writes `pend` alone, and an idle channel shows neither flag. -/
theorem deliverEndsTheDelayAndSignalsTheEvent :
    Obligations.DeliverEndsTheDelayAndSignalsTheEvent := by
  unfold Obligations.DeliverEndsTheDelayAndSignalsTheEvent
  refine ⟨fun s b => decode_sel_eq_deliver_iff, fun s b hwf => ?effect,
    fun s b hpend hcnt => ⟨State.event_iff.2 ⟨hpend, hcnt⟩, State.busy_of_pend hpend⟩⟩
  case effect =>
    obtain ⟨hsame, hother⟩ := s.setDeb_frame b ⟨(s.deb b).prev, false, (s.deb b).cnt⟩
    have hdeb := s.setDeb_deb_same b ⟨(s.deb b).prev, false, (s.deb b).cnt⟩
    have hidle := congrArg Deb.pend hdeb
    exact ⟨_, exec_deliver hwf b, hidle, by rw [hdeb], by rw [hdeb], hsame,
      hother, State.event_of_idle hidle, hidle⟩

/-- Settles O33: the decoder's tests are those of `deb_step`. -/
theorem selectedChannelOperationIsDebStep : Obligations.SelectedChannelOperationIsDebStep := by
  unfold Obligations.SelectedChannelOperationIsDebStep
  exact fun _ b hwf => exec_decode_sel hwf b

/-- Settles O35: the lone channel's strobe is the tick, which it does not read during its delay; the
other channel is not driven. -/
theorem loneChannelStepsByDebStepAndDropsPolls :
    Obligations.LoneChannelStepsByDebStepAndDropsPolls := by
  unfold Obligations.LoneChannelStepsByDebStepAndDropsPolls
  intro s b hwf ht
  refine ⟨⟨_, step_of_wf hwf, ?own, fun b' hb => ?other⟩, fun hpend poll l => ?drops⟩
  case own => rw [State.after_deb, State.stepDeb_deb ht]
  case other =>
    rw [State.after_deb, State.stepDeb_of_not_driven]
    rw [ht]
    rintro (hicb | hdeb)
    · cases hicb
    · injection hdeb with hdeb
      exact hb hdeb.symm
  case drops =>
    refine ⟨_, _, step_of_wf hwf, step_of_wf hwf, ?_⟩
    rw [State.after_deb, State.after_deb]
    exact State.stepDeb_deb_of_pend ht hpend rfl

/-- Settles O38: the block-level operation that `tsel` names gives each channel its `deb_step`, and
the next cycle begins. -/
theorem stepOfTheBlockIsBlockStep : Obligations.StepOfTheBlockIsBlockStep := by
  unfold Obligations.StepOfTheBlockIsBlockStep
  intro s hwf hicb
  have h0 : s.after.deb0 = s.debNext .b0 := State.stepDeb_icb hicb .b0
  have h1 : s.after.deb1 = s.debNext .b1 := State.stepDeb_icb hicb .b1
  refine ⟨⟨_, step_of_wf hwf, h0, h1, ?_, rfl, rfl, rfl, s.after_inputAt⟩, State.outputs_of_wf hwf⟩
  rw [h0, h1]
  rfl

/-- Settles O39: each channel's operation writes its own record, so either order gives both. -/
theorem blockOperationIsTheTwoChannelOperations :
    Obligations.BlockOperationIsTheTwoChannelOperations := by
  unfold Obligations.BlockOperationIsTheTwoChannelOperations
  intro s hwf hicb
  have htop : exec (decode (.top s.tsel)) s =
      .next ((s.setDeb .b0 (s.debNext .b0)).setDeb .b1 (s.debNext .b1)) := exec_decodeTop_tsel hwf
  rw [htop]
  refine ⟨?order01, ?order10⟩
  case order01 => rw [execAll_decode_sel hwf hicb (by decide)]
  case order10 => rw [execAll_decode_sel hwf hicb (by decide), State.setDeb_comm]

/-- Settles O42: each channel polls its own level; a poll that did not fire leaves that level
sampled and its channel idle, where another sample of it changes nothing. -/
theorem blockSamplePollsBothChannels : Obligations.BlockSamplePollsBothChannels := by
  unfold Obligations.BlockSamplePollsBothChannels
  refine ⟨fun s => decode_tsel_eq_tSample_iff, fun s hwf => ?effect, fun s hwf hdeb =>
    ⟨State.busy_eq_false_iff.2 fun b => by rw [hdeb], exec_tSample_of_sampled hwf hdeb⟩⟩
  case effect =>
    obtain ⟨t, hexec, hdeb, hsame⟩ := exec_tSample_deb hwf
    have ⟨hcfg, _, hinp, _, _⟩ := hsame
    have hpend : ∀ b, (t.deb b).pend = true ↔ s.inp.btn b = .pressed ∧ (s.deb b).prev = .released :=
      fun b => by rw [hdeb, Deb.pollOp_pend_iff]
    refine ⟨t, hexec, fun b => ⟨by rw [hdeb]; rfl, hpend b, by rw [hdeb, Deb.pollOp_cnt]⟩, hsame,
      State.busy_iff.trans (exists_congr hpend), fun hfire => ?together, fun hbusy => ?again⟩
    case together =>
      have hstart : ∀ b, t.deb b = ⟨.pressed, true, s.cfg.settleCycles⟩ := fun b => by
        rw [hdeb, Deb.pollOp_of_fires (((s.deb b).fires_iff _).2 (hfire b))]
      exact (hstart .b0).trans (hstart .b1).symm
    case again =>
      refine exec_tSample_of_sampled (by rwa [hcfg]) fun b => ?_
      have hidle := State.busy_eq_false hbusy b
      rw [hdeb] at hidle ⊢
      rw [hinp, Deb.pollOp_of_idle hidle]

end

section
/-! PROOFS. One step of the ICB (41_button_debouncer.md R74, 42_top_level.md R89,
70_reset_and_hazards.md R108 and R112), and what a run cannot see (41_button_debouncer.md R78,
42_top_level.md R90, 40_axis_conditioner.md R66). -/

namespace Sys2Proof.Machine

variable {s s' t : State} {b : BtnIx} {n : Nat} {d : Deb} {rst poll : Bool} {l : Level}

/-! ## One step -/

theorem State.debNext_of_rst (hrst : s.inp.rst = true) (b : BtnIx) :
    s.debNext b = ⟨.released, false, 0⟩ := by
  rw [State.debNext, hrst]
  rfl

/-- The last clock of a delay ends it, by delivery or by reset. -/
theorem debStep_pend_of_zero (hpend : d.pend = true) (hcnt : d.cnt = 0) :
    (debStep n d rst poll l).pend = false := by
  cases rst with
  | true => rfl
  | false => rw [debStep_of_zero hpend hcnt]

/-- A settling channel goes on settling but for a reset or its event. -/
theorem debStep_idle_of_pend (hpend : d.pend = true) (h : (debStep n d rst poll l).pend = false) :
    rst = true ∨ d.cnt = 0 := by
  obtain ⟨hrst, -⟩ | ⟨-, -, -, hstep⟩ | ⟨-, -, hcnt, -⟩ | ⟨-, hidle, -, -⟩ | ⟨-, hidle, -, -⟩ :=
    debStep_cases n d rst poll l
  · exact .inl hrst
  · rw [hstep] at h
    cases h
  · exact .inr hcnt
  · exact absurd hpend (by simp [hidle])
  · exact absurd hpend (by simp [hidle])

/-- The strobe of an idle channel outside reset is that of an accepted tick. -/
theorem State.accepted_of_strobe (hrst : s.inp.rst = false)
    (hpoll : (s.inp.tick && !s.busy) = true) : s.accepted = true := by
  rw [State.accepted, hpoll, hrst]
  rfl

/-! ## Two states with the same channels -/

theorem State.busy_congr (h : ∀ b, s'.deb b = s.deb b) : s'.busy = s.busy := by
  have h0 : s'.deb0 = s.deb0 := h .b0
  have h1 : s'.deb1 = s.deb1 := h .b1
  rw [State.busy_eq, State.busy_eq, h0, h1]

/-- What a channel of the ICB sees in a clock cycle: the settle length, both channels' states,
`rst`, `tick`, and, at an accepted tick alone, its level. -/
theorem State.debNext_congr (hn : s'.cfg.settleCycles = s.cfg.settleCycles)
    (hdeb : ∀ b, s'.deb b = s.deb b) (hrst : s'.inp.rst = s.inp.rst)
    (htick : s'.inp.tick = s.inp.tick)
    (hbtn : s.accepted = true → s'.inp.btn b = s.inp.btn b) : s'.debNext b = s.debNext b := by
  rw [State.debNext, State.debNext, hn, hdeb, hrst, htick, State.busy_congr hdeb]
  by_cases haccepted : s.accepted = true
  · rw [hbtn haccepted]
  · exact debStep_level_congr (fun ⟨hr, _, hpoll⟩ => haccepted (State.accepted_of_strobe hr hpoll))
      _ _ _

/-- Two runs of the ICB that show the channels the same in every clock cycle leave them the same. -/
theorem State.iterate_after_deb_congr (ht : s.target = .icb) (ht' : s'.target = .icb)
    (hn : s'.cfg.settleCycles = s.cfg.settleCycles) (hdeb : ∀ b, s'.deb b = s.deb b) {k : Nat}
    (hrst : ∀ j, j < k → (s'.inputAt j).rst = (s.inputAt j).rst)
    (htick : ∀ j, j < k → (s'.inputAt j).tick = (s.inputAt j).tick)
    (hbtn : ∀ j, j < k → (State.after^[j] s).accepted = true →
      ∀ b, (s'.inputAt j).btn b = (s.inputAt j).btn b) (b : BtnIx) :
    (State.after^[k] s').deb b = (State.after^[k] s).deb b := by
  induction k generalizing b with
  | zero => exact hdeb b
  | succ k ih =>
    have hk := k.lt_succ_self
    have hsame := ih (fun j hj => hrst j (hj.trans hk)) (fun j hj => htick j (hj.trans hk))
      (fun j hj => hbtn j (hj.trans hk))
    rw [State.iterate_after_deb_succ ht, State.iterate_after_deb_succ ht']
    refine State.debNext_congr ?settle hsame ?rst ?tick fun haccepted => ?btn
    case settle => rwa [State.iterate_after_cfg, State.iterate_after_cfg]
    case rst => rw [State.iterate_after_inp, State.iterate_after_inp, hrst k hk]
    case tick => rw [State.iterate_after_inp, State.iterate_after_inp, htick k hk]
    case btn => rw [State.iterate_after_inp, State.iterate_after_inp, hbtn k hk haccepted]

theorem State.event_congr (h : s'.deb b = s.deb b) : s'.event b = s.event b := by
  rw [State.event, h, State.event]

/-! ## The stimulus word, the samples -/

/-- Inputs with the same stimulus word differ in the samples alone (30_encoding.md R52). -/
theorem Inputs.eq_of_word_eq {i j : Inputs} (h : i.word = j.word) :
    i.rst = j.rst ∧ i.tick = j.tick ∧ ∀ b, i.btn b = j.btn b := by
  have hj := j.ofWord_word
  rw [← h] at hj
  have hi := i.ofWord_word
  refine ⟨?_, ?_, fun b => ?_⟩
  · rw [← hi, ← hj]; rfl
  · rw [← hi, ← hj]; rfl
  · rw [← hi, ← hj]; cases b <;> rfl

/-- After any run the axis outputs are those of the sample then on the port. -/
theorem State.iterate_after_axisOut (s : State) (k : Nat) (a : AxisIx) :
    (State.after^[k] s).axisOut a = condOut (s.cfg.axis a) ((s.inputAt k).raw a) := by
  rw [State.axisOut, State.iterate_after_cfg, State.iterate_after_inp]

end Sys2Proof.Machine

open Sys2Proof Sys2Proof.Machine

/-- Settles O54: away from an accepted tick `deb_step` does not read the level, so the two runs keep
the same channels cycle by cycle. -/
theorem levelsBetweenAcceptedTicksLeaveNoTrace :
    Obligations.LevelsBetweenAcceptedTicksLeaveNoTrace := by
  unfold Obligations.LevelsBetweenAcceptedTicksLeaveNoTrace
  intro s s' t t' k hicb hicb' hn hdeb hstrobes hlevels hrun hrun' b
  obtain ⟨hwf, rfl⟩ := runFor_next hrun
  obtain ⟨-, rfl⟩ := runFor_next hrun'
  refine State.iterate_after_deb_congr hicb hicb' hn hdeb (fun j hj => (hstrobes j hj).1)
    (fun j hj => (hstrobes j hj).2) (fun j hj haccepted => ?_) b
  have hwf : s.cfg.wf = true := hwf.resolve_left (Nat.ne_zero_of_lt hj)
  exact hlevels j _ hj (runFor_of_wf hwf j) haccepted

/-- Settles O55: the outputs of an axis read the sample and the constants, and a channel sees the
stimulus word and the settle length. -/
theorem axisPathAndButtonPathAreIndependent : Obligations.AxisPathAndButtonPathAreIndependent := by
  unfold Obligations.AxisPathAndButtonPathAreIndependent
  refine ⟨fun s t a k hrun => ?axis,
    fun s s' t t' k hicb hicb' hn hdeb hword hrun hrun' => ?buttons⟩
  case axis =>
    obtain ⟨-, rfl⟩ := runFor_next hrun
    exact s.iterate_after_axisOut k a
  case buttons =>
    obtain ⟨-, rfl⟩ := runFor_next hrun
    obtain ⟨-, rfl⟩ := runFor_next hrun'
    have hinp := fun j hj => Inputs.eq_of_word_eq (hword j hj)
    have hsame := State.iterate_after_deb_congr hicb hicb' hn hdeb (fun j hj => (hinp j hj).1)
      (fun j hj => (hinp j hj).2.1) (fun j hj _ => (hinp j hj).2.2)
    exact ⟨fun b => ⟨hsame b, State.event_congr (hsame b)⟩, State.busy_congr hsame⟩

/-- Settles O25: the outputs after the run are those of the sample then on the port, which is the
first one. -/
theorem constantSampleGivesConstantOutputs : Obligations.ConstantSampleGivesConstantOutputs := by
  unfold Obligations.ConstantSampleGivesConstantOutputs
  intro s t a k hconst hrun
  obtain ⟨-, rfl⟩ := runFor_next hrun
  rw [State.iterate_after_axisOut, hconst k le_rfl, State.axisOut]

/-- Settles O45: both channels are idle after the reset, so the next tick is accepted, and `prev` is
released, so the held button fires. -/
theorem resetAbandonsADelayAndAHeldButtonFiresAgain :
    Obligations.ResetAbandonsADelayAndAHeldButtonFiresAgain := by
  unfold Obligations.ResetAbandonsADelayAndAHeldButtonFiresAgain
  intro s b hwf hicb hrst _ hrst' htick hpressed
  have hreset : ∀ b, s.after.deb b = ⟨.released, false, 0⟩ := fun b => by
    rw [State.after_deb, State.stepDeb_icb hicb, State.debNext_of_rst hrst]
  have hidle : s.after.busy = false := State.busy_eq_false_iff.2 fun b => by rw [hreset]
  have haccepted : s.after.accepted = true := by
    rw [State.accepted_iff, State.after_inp]
    exact ⟨htick, hidle, hrst'⟩
  obtain ⟨u, hstep, hpoll⟩ := step_of_accepted_deb (s := s.after) hwf hicb haccepted
  refine ⟨_, u, step_of_wf hwf, State.event_of_idle (by rw [hreset]), hreset b, hstep, ?_⟩
  rw [hpoll, hreset, State.after_inp, hpressed]
  rfl

/-- Settles O46: without an accepted tick a channel does not see its level. -/
theorem levelsAreReadOnlyAtAcceptedTicks : Obligations.LevelsAreReadOnlyAtAcceptedTicks := by
  unfold Obligations.LevelsAreReadOnlyAtAcceptedTicks
  intro s l0 l1 hwf hicb hno
  refine ⟨_, _, step_of_wf hwf, step_of_wf hwf, fun b => ?_⟩
  rw [State.after_deb, State.after_deb, State.stepDeb_icb (s := s) hicb,
    State.stepDeb_icb (s := { s with inp := { s.inp with btn0 := l0, btn1 := l1 } }) hicb]
  exact State.debNext_congr rfl (s.withInp_deb _) rfl rfl fun hyes => absurd hyes (by simp [hno])

/-- Settles O47: a settling next state comes from a delay that goes on or from a poll that fires; a
delay that does not go on met a reset or its event. -/
theorem phaseChangesOnlyByFiringDeliveringOrReset :
    Obligations.PhaseChangesOnlyByFiringDeliveringOrReset := by
  unfold Obligations.PhaseChangesOnlyByFiringDeliveringOrReset
  intro s t b hicb hstep
  obtain ⟨-, rfl⟩ := step_next hstep
  rw [State.after_deb, State.stepDeb_icb hicb]
  refine ⟨fun hidle hpend => ?starts, fun hpend hidle => ?stops⟩
  case starts =>
    obtain ⟨hrst, ⟨hpend', -⟩ | ⟨-, hpoll, hfires, -⟩⟩ := debStep_pend_cases hpend
    · exact absurd hpend' (by simp [hidle])
    · exact ⟨State.accepted_of_strobe hrst hpoll, hfires⟩
  case stops =>
    exact (debStep_idle_of_pend hpend hidle).imp_right fun hcnt => State.event_iff.2 ⟨hpend, hcnt⟩

/-- Settles O48: the event is the last clock of the delay, after which the channel is idle. -/
theorem eventLastsOneClockCycle : Obligations.EventLastsOneClockCycle := by
  unfold Obligations.EventLastsOneClockCycle
  intro s b hwf ht hevent
  obtain ⟨hpend, hcnt⟩ := State.event_iff.1 hevent
  have hidle : (s.after.deb b).pend = false := by
    rw [State.after_deb, State.stepDeb_of_driven ht]
    exact debStep_pend_of_zero hpend hcnt
  exact ⟨_, step_of_wf hwf, State.event_of_idle hidle, hidle⟩

end

section
/-! PROOFS. The settle delay over a run of the ICB (41_button_debouncer.md R75, 42_top_level.md
R91): while it lasts no channel is polled, so the settling channels count down in step and the
others stay. -/

namespace Sys2Proof.Machine

variable {s t : State} {b : BtnIx} {n : Nat} {d : Deb} {l : Level}

/-! ## A channel during a delay -/

/-- A channel after `j` clock cycles without a poll, where `j` is at most its count: settling it has
counted down, idle it is as it was. -/
def Deb.delayed (d : Deb) (j : Nat) : Deb := { d with cnt := if d.pend then d.cnt - j else d.cnt }

theorem Deb.delayed_zero (d : Deb) : d.delayed 0 = d := by
  simp [Deb.delayed]

theorem Deb.delayed_of_pend (h : d.pend = true) (j : Nat) :
    d.delayed j = ⟨d.prev, true, d.cnt - j⟩ := by
  simp [Deb.delayed, h]

theorem Deb.delayed_of_idle (h : d.pend = false) (j : Nat) : d.delayed j = d := by
  rw [Deb.delayed, if_neg (by simp [h])]

/-- While the count lasts, one stall more is one cycle of delay more. -/
theorem Deb.stallOp_delayed {j : Nat} (h : d.pend = true → j < d.cnt) (below : Nat) :
    (d.delayed j).stallOp below = d.delayed (j + 1) := by
  cases hpend : d.pend with
  | true =>
    have hj := h hpend
    rw [Deb.delayed_of_pend hpend, Deb.delayed_of_pend hpend,
      Deb.stallOp_of_count rfl (Nat.sub_ne_zero_of_lt hj), Nat.sub_sub]
  | false =>
    rw [Deb.delayed_of_idle hpend, Deb.delayed_of_idle hpend, Deb.stallOp_of_idle hpend]

/-- With the count run down, a stall leaves the channel idle. -/
theorem Deb.stallOp_delayed_end {j : Nat} (h : d.pend = true → d.cnt = j) (below : Nat) :
    ((d.delayed j).stallOp below).pend = false := by
  cases hpend : d.pend with
  | true => rw [Deb.delayed_of_pend hpend, h hpend, Deb.stallOp_of_zero rfl (Nat.sub_self j)]
  | false => rw [Deb.delayed_of_idle hpend, Deb.stallOp_of_idle hpend, hpend]

/-! ## The block during a delay -/

theorem State.accepted_of_busy (hbusy : s.busy = true) : s.accepted = false := by
  rw [State.accepted, hbusy, Bool.not_true, Bool.and_false, Bool.false_and]

/-- Outside reset and accepted ticks each channel does what it does in `T.STALL` (R86). -/
theorem State.debNext_of_not_accepted (hrst : s.inp.rst = false) (hno : s.accepted = false)
    (b : BtnIx) : s.debNext b = (s.deb b).stallOp 0 := by
  have hpoll : (s.inp.tick && !s.busy) = false := by
    rwa [State.accepted, hrst, Bool.not_false, Bool.and_true] at hno
  rw [State.debNext, hrst, hpoll, ← Deb.stallOp_eq_debStep]

section
variable {m : Nat} (ht : s.target = .icb) (hbusy : s.busy = true)
  (hcnt : ∀ b, (s.deb b).pend = true → (s.deb b).cnt = m)
include ht hbusy hcnt

/-- From a state in which the settling channels are in step with count `m`, the delay runs down in
`m` clock cycles. -/
theorem State.iterate_after_deb_of_delay {j : Nat} (hj : j ≤ m)
    (hrst : ∀ i, i < j → (s.inputAt i).rst = false) (b : BtnIx) :
    (State.after^[j] s).deb b = (s.deb b).delayed j := by
  induction j generalizing b with
  | zero => rw [Deb.delayed_zero]; rfl
  | succ j ih =>
    have hdeb := ih (Nat.le_of_lt hj) fun i hi => hrst i (hi.trans j.lt_succ_self)
    obtain ⟨b', hpend⟩ := State.busy_iff.1 hbusy
    have hbusy' : (State.after^[j] s).busy = true := State.busy_of_pend (b := b') (by
      rwa [hdeb])
    rw [State.iterate_after_deb_succ ht,
      State.debNext_of_not_accepted (by rw [State.iterate_after_inp, hrst j j.lt_succ_self])
        (State.accepted_of_busy hbusy'), hdeb,
      Deb.stallOp_delayed fun hp => by rw [hcnt b hp]; exact hj]

/-- One clock cycle later every channel is idle, with the level it had sampled. -/
theorem State.iterate_after_deb_of_delay_end (hrst : ∀ i, i ≤ m → (s.inputAt i).rst = false)
    (b : BtnIx) :
    ((State.after^[m + 1] s).deb b).pend = false ∧
      ((State.after^[m + 1] s).deb b).prev = (s.deb b).prev := by
  have hdeb := State.iterate_after_deb_of_delay ht hbusy hcnt le_rfl fun i hi => hrst i hi.le
  obtain ⟨b', hpend⟩ := State.busy_iff.1 hbusy
  have hbusy' : (State.after^[m] s).busy = true := State.busy_of_pend (b := b') (by rwa [hdeb])
  rw [State.iterate_after_deb_succ ht,
    State.debNext_of_not_accepted (by rw [State.iterate_after_inp, hrst m le_rfl])
      (State.accepted_of_busy hbusy'), hdeb]
  exact ⟨Deb.stallOp_delayed_end (hcnt b) 0, Deb.stallOp_prev _ 0⟩

end

/-! ## From a firing poll -/

/-- At an accepted tick of the ICB each channel polls its own level (R87). -/
theorem State.after_deb_of_accepted (ht : s.target = .icb) (ha : s.accepted = true) (b : BtnIx) :
    s.after.deb b = (s.deb b).pollOp s.cfg.settleCycles (s.inp.btn b) := by
  obtain ⟨htick, hbusy, hrst⟩ := State.accepted_iff.1 ha
  rw [State.after_deb, State.stepDeb_icb ht, State.debNext, hrst, htick, hbusy, Bool.not_false,
    Bool.and_true, debStep_of_poll (State.busy_eq_false hbusy b)]

/-- A channel that settles after an accepted tick has its whole delay before it. -/
theorem State.after_cnt_of_accepted (ht : s.target = .icb) (ha : s.accepted = true) (b : BtnIx)
    (hpend : (s.after.deb b).pend = true) : (s.after.deb b).cnt = s.cfg.settleCycles := by
  rw [State.after_deb_of_accepted ht ha] at hpend ⊢
  rw [Deb.pollOp_cnt, if_pos ((Deb.pollOp_pend_iff _ _ _).1 hpend)]

/-- Channel `b` fires, if the tick of this clock cycle is accepted (R68). -/
def State.Fires (s : State) (b : BtnIx) : Prop :=
  s.inp.btn b = .pressed ∧ (s.deb b).prev = .released

theorem State.after_deb_of_fires (ht : s.target = .icb) (ha : s.accepted = true)
    (hfires : s.Fires b) : s.after.deb b = ⟨.pressed, true, s.cfg.settleCycles⟩ := by
  rw [State.after_deb_of_accepted ht ha,
    Deb.pollOp_of_fires ((Deb.fires_iff _ _).2 hfires)]

section
variable (ht : s.target = .icb) (ha : s.accepted = true)
  (hrst : ∀ j, j ≤ s.cfg.settleCycles → (s.inputAt (1 + j)).rst = false) (hfires : s.Fires b)
include ht ha hrst hfires

/-- `j` clock cycles into its delay a channel has `SETTLE_CYCLES - j` to go. -/
theorem State.iterate_after_deb_of_fires {j : Nat} (hj : j ≤ s.cfg.settleCycles) :
    (State.after^[1 + j] s).deb b = ⟨.pressed, true, s.cfg.settleCycles - j⟩ := by
  have hdeb := State.after_deb_of_fires ht ha hfires
  rw [Nat.add_comm, Function.iterate_succ_apply,
    State.iterate_after_deb_of_delay (s := s.after) ht (State.busy_of_pend (by rw [hdeb]))
      (State.after_cnt_of_accepted ht ha) hj, hdeb, Deb.delayed_of_pend rfl]
  intro i hi
  rw [State.after_inputAt, Nat.add_comm, hrst i (hi.le.trans hj)]

/-- After the delay both channels are idle. -/
theorem State.iterate_after_idle_of_fires (b' : BtnIx) :
    ((State.after^[2 + s.cfg.settleCycles] s).deb b').pend = false ∧
      ((State.after^[2 + s.cfg.settleCycles] s).deb b').prev = s.inp.btn b' := by
  have hbusy : s.after.busy = true :=
    State.busy_of_pend (b := b) (by rw [State.after_deb_of_fires ht ha hfires])
  have hprev : s.inp.btn b' = (s.after.deb b').prev := by
    rw [State.after_deb_of_accepted ht ha]
    rfl
  rw [Nat.add_comm, Function.iterate_succ_apply, hprev]
  refine State.iterate_after_deb_of_delay_end (s := s.after) ht hbusy
    (State.after_cnt_of_accepted ht ha) (fun i hi => ?_) b'
  rw [State.after_inputAt, Nat.add_comm, hrst i hi]

end

end Sys2Proof.Machine

open Sys2Proof Sys2Proof.Machine

/-- Settles O50: the poll starts the count at `SETTLE_CYCLES`, each clock takes one away, and at 0
the event is delivered; the other channel settles in step or not at all. -/
theorem eventFollowsAFiringPollByTheSettleDelay :
    Obligations.EventFollowsAFiringPollByTheSettleDelay := by
  unfold Obligations.EventFollowsAFiringPollByTheSettleDelay
  intro s b hwf hicb haccepted hpressed hreleased hrst
  have hfires : s.Fires b := ⟨hpressed, hreleased⟩
  refine ⟨fun j hj => ⟨_, runFor_of_wf hwf _, ?during⟩, _, runFor_of_wf hwf _, ?after⟩
  case during =>
    have hdeb := State.iterate_after_deb_of_fires hicb haccepted hrst hfires hj
    rw [State.event_iff, hdeb]
    refine ⟨rfl, rfl, fun ⟨_, hzero⟩ => ?_, fun hlast => ⟨rfl, ?_⟩⟩
    · exact hj.antisymm (Nat.sub_eq_zero_iff_le.1 hzero)
    · exact Nat.sub_eq_zero_of_le hlast.ge
  case after =>
    have hidle := fun b' =>
      (State.iterate_after_idle_of_fires hicb haccepted hrst hfires b').1
    exact ⟨hidle b, State.event_of_idle (hidle b), State.busy_eq_false_iff.2 hidle⟩

/-- Settles O51: the first part is in the invariant; for the second, the channel that fired holds
`busy` up through its delay, and after it both channels are idle. -/
theorem busyLastsSettleCyclesPlusOneClocks : Obligations.BusyLastsSettleCyclesPlusOneClocks := by
  unfold Obligations.BusyLastsSettleCyclesPlusOneClocks
  refine ⟨fun c i q k t hwf hrun => ?inStep, fun s hwf hicb haccepted ⟨b, hfires⟩ hrst =>
    ⟨fun j hj => ⟨_, runFor_of_wf hwf _, ?during⟩, _, runFor_of_wf hwf _, ?after⟩⟩
  case inStep =>
    obtain ⟨⟨-, -, -, hinStep⟩, -, hicb⟩ := inv_of_runFor_resetWith hwf hrun
    exact hinStep hicb
  case during =>
    have hdeb := State.iterate_after_deb_of_fires hicb haccepted hrst hfires hj
    exact State.busy_of_pend (b := b) (by rw [hdeb])
  case after =>
    exact State.busy_eq_false_iff.2 fun b' =>
      (State.iterate_after_idle_of_fires hicb haccepted hrst hfires b').1

end

section
/-! PROOFS. Events against presses over a run of the ICB without reset (41_button_debouncer.md R76
and R77, 42_top_level.md R92): one conservation law, step by step, and what it gives for constant
levels. -/

namespace Sys2Proof.Machine

variable {s t : State} {b : BtnIx} {d : Deb} {l : Level} {k : Nat}

/-! ## One step outside reset -/

/-- A stall delivers the event or keeps the channel settling. -/
theorem Deb.event_add_stallOp_pend (d : Deb) (below : Nat) :
    (if d.event = true then 1 else 0) + (if (d.stallOp below).pend = true then 1 else 0) =
      if d.pend = true then 1 else 0 := by
  obtain ⟨hidle, hstall⟩ | ⟨hpend, hcnt, hstall⟩ | ⟨hpend, hcnt, hstall⟩ := d.stallOp_cases below
  · simp [Deb.event, hstall, hidle]
  · simp [Deb.event, hstall, hpend, hcnt]
  · simp [Deb.event, hstall, hpend, hcnt]

/-- Without an accepted tick each channel stalls. -/
theorem State.after_deb_of_not_accepted (ht : s.target = .icb) (hrst : s.inp.rst = false)
    (hno : s.accepted = false) (b : BtnIx) : s.after.deb b = (s.deb b).stallOp 0 := by
  rw [State.after_deb, State.stepDeb_icb ht, State.debNext_of_not_accepted hrst hno]

theorem State.after_prev (ht : s.target = .icb) (hrst : s.inp.rst = false) (b : BtnIx) :
    (s.after.deb b).prev = if s.accepted then s.inp.btn b else (s.deb b).prev := by
  cases ha : s.accepted with
  | true =>
    rw [State.after_deb_of_accepted ht ha]
    rfl
  | false =>
    rw [State.after_deb_of_not_accepted ht hrst ha, Deb.stallOp_prev]
    rfl

/-- At an accepted tick no event is shown, and the channel settles next where it fires. -/
theorem State.event_of_accepted (ha : s.accepted = true) (b : BtnIx) : s.event b = false := by
  obtain ⟨-, hbusy, -⟩ := State.accepted_iff.1 ha
  exact State.event_of_idle (State.busy_eq_false hbusy b)

/-- The conservation law of one clock cycle (R76): the event shown, the channel settling next and
the presses still to be sampled make up the presses sampled from now on and the channel settling
now. -/
theorem State.event_add_pend_after (ht : s.target = .icb) (hrst : s.inp.rst = false) (b : BtnIx)
    (later : List Level) :
    (if s.event b = true then 1 else 0) + (if (s.after.deb b).pend = true then 1 else 0) +
        pressEdges (s.after.deb b).prev later =
      pressEdges (s.deb b).prev ((if s.accepted then [s.inp.btn b] else []) ++ later) +
        if (s.deb b).pend = true then 1 else 0 := by
  rw [State.after_prev ht hrst]
  cases ha : s.accepted with
  | true =>
    obtain ⟨-, hbusy, -⟩ := State.accepted_iff.1 ha
    have hidle := State.busy_eq_false hbusy b
    simp only [State.event_of_accepted ha, State.after_deb_of_accepted ht ha, Deb.pollOp_pend_iff,
      hidle, and_comm (a := s.inp.btn b = .pressed)]
    simp [pressEdges]
  | false =>
    have hstall := (s.deb b).event_add_stallOp_pend 0
    rw [← State.event, ← State.after_deb_of_not_accepted ht hrst ha] at hstall
    rw [hstall, Nat.add_comm]
    rfl

/-! ## A run without reset -/

/-- The conservation law of a run (R76). -/
theorem eventPulses_add_pend (ht : s.target = .icb) (hrst : ∀ j, j < k → (s.inputAt j).rst = false)
    (hrun : runFor k s = .next t) (b : BtnIx) :
    eventPulses b k s + (if (t.deb b).pend = true then 1 else 0) =
      pressEdges (s.deb b).prev (sampledLevels b k s) +
        if (s.deb b).pend = true then 1 else 0 := by
  induction k generalizing s with
  | zero =>
    injection hrun with hrun
    rw [← hrun, eventPulses, sampledLevels, pressEdges]
  | succ k ih =>
    have hwf : s.cfg.wf = true := (runFor_next hrun).1.resolve_left k.succ_ne_zero
    rw [runFor_succ (step_of_wf hwf)] at hrun
    have hlater := ih (s := s.after) ht (fun j hj => by
      rw [State.after_inputAt, hrst _ (Nat.succ_lt_succ hj)]) hrun
    have hnow := s.event_add_pend_after ht (hrst 0 k.succ_pos) b (sampledLevels b k s.after)
    rw [eventPulses_succ hwf, sampledLevels_succ hwf]
    omega

/-! ## Constant levels -/

/-- Levels that are all the one before them have no press among them. -/
theorem pressEdges_of_const {levels : List Level} (h : ∀ x ∈ levels, x = l) :
    pressEdges l levels = 0 := by
  induction levels with
  | nil => rfl
  | cons x rest ih =>
    obtain ⟨rfl, hrest⟩ := List.forall_mem_cons.1 h
    rw [pressEdges, ih hrest]
    cases x <;> rfl

/-- Constant levels have at most one press among them, at their beginning. -/
theorem pressEdges_le_of_const {levels : List Level} (h : ∀ x ∈ levels, x = l) (last : Level) :
    pressEdges last levels ≤ if last = .released ∧ l = .pressed then 1 else 0 := by
  cases levels with
  | nil => exact Nat.zero_le _
  | cons x rest =>
    obtain ⟨rfl, hrest⟩ := List.forall_mem_cons.1 h
    rw [pressEdges, pressEdges_of_const hrest, Nat.add_zero]

/-- The levels sampled are levels on the port. -/
theorem eq_of_mem_sampledLevels (hwf : k = 0 ∨ s.cfg.wf = true)
    (hl : ∀ j, j < k → (s.inputAt j).btn b = l) : ∀ x ∈ sampledLevels b k s, x = l := by
  induction k generalizing s with
  | zero => exact fun _ hx => absurd hx List.not_mem_nil
  | succ k ih =>
    have hwf : s.cfg.wf = true := hwf.resolve_left k.succ_ne_zero
    have hlater := ih (s := s.after) (.inr hwf) fun j hj => by
      rw [State.after_inputAt, hl _ (Nat.succ_lt_succ hj)]
    have hnow : s.inp.btn b = l := hl 0 k.succ_pos
    rw [sampledLevels_succ hwf, hnow]
    intro x hx
    obtain hx | hx := List.mem_append.1 hx
    · split_ifs at hx
      · exact List.mem_singleton.1 hx
      · exact absurd hx List.not_mem_nil
    · exact hlater x hx

/-- With a constant level the events of a run are at most the one settling at its start and that of
a press at its first sample. -/
theorem eventPulses_add_pend_le_of_const (ht : s.target = .icb)
    (hrst : ∀ j, j < k → (s.inputAt j).rst = false)
    (hl : ∀ j, j < k → (s.inputAt j).btn b = l) (hrun : runFor k s = .next t) :
    eventPulses b k s + (if (t.deb b).pend = true then 1 else 0) ≤
      (if (s.deb b).prev = .released ∧ l = .pressed then 1 else 0) +
        if (s.deb b).pend = true then 1 else 0 := by
  rw [eventPulses_add_pend ht hrst hrun]
  exact Nat.add_le_add_right
    (pressEdges_le_of_const (eq_of_mem_sampledLevels (runFor_next hrun).1 hl) _) _

theorem State.iterate_after_prev_of_const (ht : s.target = .icb)
    (hrst : ∀ j, j < k → (s.inputAt j).rst = false)
    (hl : ∀ j, j < k → (s.inputAt j).btn b = (s.deb b).prev) :
    ((State.after^[k] s).deb b).prev = (s.deb b).prev := by
  induction k generalizing s with
  | zero => rfl
  | succ k ih =>
    have hprev : (s.after.deb b).prev = (s.deb b).prev := by
      rw [State.after_prev ht (hrst 0 k.succ_pos), ← hl 0 k.succ_pos]
      exact ite_self _
    rw [Function.iterate_succ_apply, ← hprev]
    exact ih ht (fun j hj => by rw [State.after_inputAt, hrst _ (Nat.succ_lt_succ hj)])
      fun j hj => by rw [State.after_inputAt, hl _ (Nat.succ_lt_succ hj), hprev]

theorem Deb.Ok.eq_of_idle {n : Nat} (h : d.Ok n) (hidle : d.pend = false) :
    d = ⟨d.prev, false, 0⟩ := by
  obtain ⟨hzero, -, -⟩ := h
  rw [← hidle, ← hzero hidle]

/-- Channels that are idle with the held levels sampled stay as they are (R92). -/
theorem State.iterate_after_deb_of_sampled (ht : s.target = .icb) {held : BtnIx → Level}
    (hdeb : ∀ b, s.deb b = ⟨held b, false, 0⟩)
    (hinp : ∀ j, j < k → (s.inputAt j).rst = false ∧ ∀ b, (s.inputAt j).btn b = held b)
    (b : BtnIx) : (State.after^[k] s).deb b = ⟨held b, false, 0⟩ := by
  induction k generalizing s with
  | zero => exact hdeb b
  | succ k ih =>
    obtain ⟨hrst, hbtn⟩ := hinp 0 k.succ_pos
    have hbtn : ∀ b, s.inp.btn b = held b := hbtn
    rw [Function.iterate_succ_apply]
    refine ih (s := s.after) ht (fun b => ?_) fun j hj => ?_
    · cases ha : s.accepted with
      | true => rw [State.after_deb_of_accepted ht ha, hdeb, hbtn, Deb.pollOp_of_sampled]
      | false => rw [State.after_deb_of_not_accepted ht hrst ha, hdeb, Deb.stallOp_of_idle rfl]
    · rw [State.after_inputAt]
      exact hinp _ (Nat.succ_lt_succ hj)

/-- An accepted tick and the delay after it leave every channel idle with its held level sampled. -/
theorem State.iterate_after_idle_of_accepted (ht : s.target = .icb) (ha : s.accepted = true)
    (hinp : ∀ j, j ≤ 1 + s.cfg.settleCycles →
      (s.inputAt j).rst = false ∧ ∀ b, (s.inputAt j).btn b = s.inp.btn b) (b : BtnIx) :
    ((State.after^[2 + s.cfg.settleCycles] s).deb b).pend = false ∧
      ((State.after^[2 + s.cfg.settleCycles] s).deb b).prev = s.inp.btn b := by
  by_cases hfires : ∃ b, s.Fires b
  · obtain ⟨b', hfires⟩ := hfires
    exact State.iterate_after_idle_of_fires ht ha
      (fun j hj => (hinp (1 + j) (Nat.add_le_add_left hj 1)).1) hfires b
  · have hdeb : ∀ b, s.after.deb b = ⟨s.inp.btn b, false, 0⟩ := fun b => by
      rw [State.after_deb_of_accepted ht ha, Deb.pollOp_of_not_fires]
      rw [← Bool.not_eq_true, Deb.fires_iff]
      exact fun h => hfires ⟨b, h⟩
    rw [Nat.add_comm, Function.iterate_succ_apply,
      State.iterate_after_deb_of_sampled (s := s.after) ht hdeb fun j hj => ?_]
    · exact ⟨rfl, rfl⟩
    · rw [State.after_inputAt]
      exact hinp _ (by omega)

end Sys2Proof.Machine

open Sys2Proof Sys2Proof.Machine

/-- Settles O52, by induction on the length of the run: a poll that fires starts a delay, and a
delay ends in one event. -/
theorem oneEventPerSampledPress : Obligations.OneEventPerSampledPress := by
  unfold Obligations.OneEventPerSampledPress
  exact fun _ _ b _ hicb hrst hrun => eventPulses_add_pend hicb hrst hrun b

/-- Settles O53: samples that repeat `prev`, or that are all released, have no press among them;
only an accepted tick writes `prev`, with the level it samples. -/
theorem heldButtonDoesNotFireAgain : Obligations.HeldButtonDoesNotFireAgain := by
  unfold Obligations.HeldButtonDoesNotFireAgain
  refine ⟨fun s t b k hicb hinp hprev hrun => ⟨?prev, ?events⟩,
    fun s t b hicb hrst hstep hprev hprev' => ?rearm, fun s t b k hicb hinp hidle hrun => ?released⟩
  case prev =>
    rw [(runFor_next hrun).2, State.iterate_after_prev_of_const hicb (fun j hj => (hinp j hj).1)
      fun j hj => by rw [(hinp j hj).2, hprev], hprev]
  case events =>
    rw [eventPulses_add_pend hicb (fun j hj => (hinp j hj).1) hrun, hprev, pressEdges_of_const
      (eq_of_mem_sampledLevels (runFor_next hrun).1 fun j hj => (hinp j hj).2), Nat.zero_add]
  case rearm =>
    rw [(step_next hstep).2, State.after_prev hicb hrst, hprev] at hprev'
    split_ifs at hprev' with ha
    exact ⟨ha, hprev'⟩
  case released =>
    have hle := eventPulses_add_pend_le_of_const hicb (fun j hj => (hinp j hj).1)
      (fun j hj => (hinp j hj).2) hrun
    simpa [hidle] using hle

/-- Settles O56: a settling channel has `prev` pressed, so a delay at the start and a press at the
first sample exclude each other; samples of the held levels change nothing. -/
theorem constantLevelsGiveAtMostOneEvent : Obligations.ConstantLevelsGiveAtMostOneEvent := by
  unfold Obligations.ConstantLevelsGiveAtMostOneEvent
  intro s hinv hicb
  have hwf : s.cfg.wf = true := hinv.1
  refine ⟨fun k hinp => ⟨fun b => ?atMostOne,
      fun hsampled => ⟨_, runFor_of_wf hwf k, fun b => ?constant⟩⟩,
    fun hinp haccepted => ⟨_, runFor_of_wf hwf _,
      State.iterate_after_idle_of_accepted hicb haccepted hinp⟩⟩
  case atMostOne =>
    have hle := (Nat.le_add_right _ _).trans (eventPulses_add_pend_le_of_const hicb
      (fun j hj => (hinp j hj).1) (fun j hj => (hinp j hj).2 b) (runFor_of_wf hwf k))
    obtain ⟨-, -, hprev⟩ := hinv.deb_ok b
    cases hpend : (s.deb b).pend with
    | true =>
      rw [hprev hpend, if_neg (fun h => Level.noConfusion h.1), if_pos hpend] at hle
      exact ⟨by omega, fun _ => .inl rfl⟩
    | false =>
      rw [if_neg (by simp [hpend] : ¬ (s.deb b).pend = true)] at hle
      split_ifs at hle with hpress
      · exact ⟨by omega, fun _ => .inr hpress.symm⟩
      · exact ⟨by omega, fun hone => by omega⟩
  case constant =>
    have hdeb : ∀ b, s.deb b = ⟨s.inp.btn b, false, 0⟩ := fun b => by
      obtain ⟨hidle, hprev⟩ := hsampled b
      rw [(hinv.deb_ok b).eq_of_idle hidle, hprev]
    have hevents := eventPulses_add_pend hicb (fun j hj => (hinp j hj).1) (runFor_of_wf hwf k) b
    rw [State.iterate_after_deb_of_sampled hicb hdeb hinp, hdeb, pressEdges_of_const
      (eq_of_mem_sampledLevels (.inr hwf) fun j hj => (hinp j hj).2 b)] at hevents
    exact ⟨by rw [State.iterate_after_deb_of_sampled hicb hdeb hinp, hdeb], hevents⟩

end

section
/-! PROOFS. The stimulus script (30_encoding.md R56) against its inputs, queued: what one statement
does, and the script as a run of the machine. -/

namespace Sys2Proof.Machine

variable {s u : State} {x : Stmt} {stmts : List Stmt} {i : Inputs} {rest : List Inputs}

/-! ## The held values -/

/-- The held values with the strobes of a clock cycle. -/
def Inputs.withStrobes (i : Inputs) (r t : Bool) : Inputs := { i with rst := r, tick := t }

theorem Inputs.withStrobes_setBtn (i : Inputs) (r t : Bool) (b : BtnIx) (v : Level) :
    (i.withStrobes r t).setBtn b v = (i.setBtn b v).withStrobes r t := by
  cases b <;> rfl

theorem Inputs.withStrobes_setRaw (i : Inputs) (r t : Bool) (a : AxisIx) (v : Raw) :
    (i.withStrobes r t).setRaw a v = (i.setRaw a v).withStrobes r t := by
  cases a <;> rfl

theorem stmtInputs_step (r t : Bool) (stmts : List Stmt) (held : Inputs) :
    stmtInputs (.step r t :: stmts) held = held.withStrobes r t :: stmtInputs stmts held := rfl

/-- The inputs of a script's clock cycles read the held levels and samples, not the strobes. -/
theorem stmtInputs_withStrobes (stmts : List Stmt) (held : Inputs) (r t : Bool) :
    stmtInputs stmts (held.withStrobes r t) = stmtInputs stmts held := by
  induction stmts generalizing held with
  | nil => rfl
  | cons x stmts ih =>
    cases x with
    | cfg _ | expect _ => exact ih held
    | btn b v => rw [stmtInputs, Inputs.withStrobes_setBtn, ih, stmtInputs]
    | raw a v => rw [stmtInputs, Inputs.withStrobes_setRaw, ih, stmtInputs]
    | step r' t' => rw [stmtInputs_step, ih, stmtInputs_step]; rfl

/-! ## One statement -/

/-- Everything a statement of a script that runs can do: put other held values on the ports, or
clock the machine, whose next inputs hold those values. -/
theorem runStmts_cons_ok (h : runStmts (x :: stmts) s = .ok u) :
    (∃ held, runStmts stmts { s with inp := held } = .ok u ∧
      stmtInputs (x :: stmts) s.inp = stmtInputs stmts held) ∨
    (∃ r t, s.cfg.wf = true ∧ runStmts stmts (s.stimulate r t).after = .ok u ∧
      stmtInputs (x :: stmts) s.inp =
        s.inp.withStrobes r t :: stmtInputs stmts (s.stimulate r t).after.inp) := by
  cases x with
  | cfg items =>
    rw [runStmts] at h
    split at h
    · exact .inl ⟨s.inp, h, rfl⟩
    · cases h
  | btn b v => exact .inl ⟨_, h, rfl⟩
  | raw a v => exact .inl ⟨_, h, rfl⟩
  | expect checks =>
    rw [runStmts] at h
    split at h
    · exact .inl ⟨s.inp, h, rfl⟩
    · cases h
  | step r t =>
    rw [runStmts] at h
    split at h
    · next s' hstep =>
      obtain ⟨hwf, rfl⟩ := step_next hstep
      have hheld : (s.stimulate r t).after.inp = s.inp.withStrobes false false := rfl
      exact .inr ⟨r, t, hwf, h, by rw [hheld, stmtInputs_withStrobes, stmtInputs_step]⟩
    · cases h
    · cases h

/-! ## The whole script -/

/-- A script without clock cycles leaves the channels and the cycle number. -/
theorem runStmts_of_no_inputs (h : runStmts stmts s = .ok u) (hin : stmtInputs stmts s.inp = []) :
    (∀ b, u.deb b = s.deb b) ∧ u.cycle = s.cycle := by
  induction stmts generalizing s with
  | nil =>
    injection h with h
    rw [h]
    exact ⟨fun _ => rfl, rfl⟩
  | cons x stmts ih =>
    obtain ⟨held, hrest, hheld⟩ | ⟨r, t, -, -, hclock⟩ := runStmts_cons_ok h
    · obtain ⟨hdeb, hcycle⟩ := ih (s := { s with inp := held }) hrest (hheld.symm.trans hin)
      exact ⟨fun b => (hdeb b).trans (s.withInp_deb held b), hcycle⟩
    · rw [hclock] at hin
      cases hin

/-- The state `s` with the inputs `i` on the ports and `rest` queued. -/
def State.queued (s : State) (i : Inputs) (rest : List Inputs) : State :=
  { s with inp := i, queue := rest }

/-- One clock of a script is one step of the machine with the script's inputs queued. -/
theorem State.queued_after (s : State) (r t : Bool) (j : Inputs) (rest : List Inputs) :
    (s.queued (s.inp.withStrobes r t) (j :: rest)).after =
      (s.stimulate r t).after.queued j rest := rfl

/-- What is queued beyond a clock cycle does not reach its channels. -/
theorem State.queued_after_deb (s : State) (r t : Bool) (rest : List Inputs) (b : BtnIx) :
    (s.queued (s.inp.withStrobes r t) rest).after.deb b = (s.stimulate r t).after.deb b := by
  cases b <;> rfl

/-- A script's clock cycles are the steps of the machine with the script's inputs on the ports and
queued. -/
theorem runFor_of_runStmts (h : runStmts stmts s = .ok u)
    (hin : stmtInputs stmts s.inp = i :: rest) :
    ∃ v, runFor (rest.length + 1) (s.queued i rest) = .next v ∧
      (∀ b, v.deb b = u.deb b) ∧ v.cycle = u.cycle := by
  induction stmts generalizing s i rest with
  | nil => cases hin
  | cons x stmts ih =>
    obtain ⟨held, hrest, hheld⟩ | ⟨r, t, hwf, hrest, hclock⟩ := runStmts_cons_ok h
    · exact ih (s := { s with inp := held }) hrest (hheld.symm.trans hin)
    · rw [hclock] at hin
      injection hin with hi hlater
      subst hi
      rw [runFor_succ (step_of_wf (s := s.queued (s.inp.withStrobes r t) rest) hwf)]
      cases rest with
      | nil =>
        obtain ⟨hdeb, hcycle⟩ := runStmts_of_no_inputs hrest hlater
        exact ⟨_, rfl, fun b => (s.queued_after_deb r t [] b).trans (hdeb b).symm, hcycle.symm⟩
      | cons j rest =>
        rw [State.queued_after]
        exact ih hrest hlater

end Sys2Proof.Machine

open Sys2Proof Sys2Proof.Machine

/-- Settles O57, by induction on the statements: only `step` statements clock the machine, each with
the values held by then. -/
theorem scriptRunsAsItsQueuedInputs : Obligations.ScriptRunsAsItsQueuedInputs := by
  unfold Obligations.ScriptRunsAsItsQueuedInputs
  intro stmts s u i rest _ hrun hin
  rw [Nat.add_comm]
  exact runFor_of_runStmts hrun hin

end
